-- ==== Sys2Proof/Word.lean ====
section
/-! DEFINITION. The word types of the TX19 (00_scope.md R6, R8): registers and addresses are 32 bits, bit 0 is the
least significant bit of every value. -/

namespace Sys2Proof

/-- A 32-bit word: a general register, a CP0 register, a virtual or physical address (R6). -/
abbrev Word := BitVec 32

/-- A halfword, 16 bits (R6). -/
abbrev Half := BitVec 16

/-- A byte, 8 bits (R6). -/
abbrev Byte := BitVec 8

/-- A 5-bit general register number, r0 to r31 (30_encoding.md R120). -/
abbrev Reg := BitVec 5

/-- A 3-bit encoded register number of the 16-bit ISA (30_encoding.md R136). -/
abbrev Reg3 := BitVec 3

end Sys2Proof
end

