-- ==== Sys2Proof/Syntax.lean ====
section
/-! DEFINITION. The instructions of the TX19: one constructor per row of spec/opcode_table.json. A field holds the bits
the encoding gives it, so the ranges are those of the encoding. A name ending in `16` is the 16-bit ISA's instruction where
the 32-bit ISA has one of the same mnemonic; a name ending in `E` is an extended form (EXTEND and the instruction it extends,
49_special_extend16.md R425). -/

namespace Sys2Proof

/-- The syntax of both instruction sets (00_scope.md R3). -/
inductive Instr where
  -- 32-bit ISA: loads, stores, SYNC (40_loadstore32.md)
  /-- LB, R173. -/
  | lb (base rt : Reg) (offset : BitVec 16)
  /-- LBU, R174. -/
  | lbu (base rt : Reg) (offset : BitVec 16)
  /-- LH, R175. -/
  | lh (base rt : Reg) (offset : BitVec 16)
  /-- LHU, R176. -/
  | lhu (base rt : Reg) (offset : BitVec 16)
  /-- LWL, R177. -/
  | lwl (base rt : Reg) (offset : BitVec 16)
  /-- LWR, R178. -/
  | lwr (base rt : Reg) (offset : BitVec 16)
  /-- LW, R179. -/
  | lw (base rt : Reg) (offset : BitVec 16)
  /-- SB, R180. -/
  | sb (base rt : Reg) (offset : BitVec 16)
  /-- SH, R181. -/
  | sh (base rt : Reg) (offset : BitVec 16)
  /-- SWL, R182. -/
  | swl (base rt : Reg) (offset : BitVec 16)
  /-- SWR, R183. -/
  | swr (base rt : Reg) (offset : BitVec 16)
  /-- SW, R185. -/
  | sw (base rt : Reg) (offset : BitVec 16)
  /-- SYNC, R184. -/
  | sync
  -- 32-bit ISA: arithmetic, logical, compare (41_alu32.md)
  /-- ADD, R191. -/
  | add (rs rt rd : Reg)
  /-- ADDU, R192. -/
  | addu (rs rt rd : Reg)
  /-- SUB, R193. -/
  | sub (rs rt rd : Reg)
  /-- SUBU, R194. -/
  | subu (rs rt rd : Reg)
  /-- AND, R195. -/
  | and (rs rt rd : Reg)
  /-- OR, R196. -/
  | or (rs rt rd : Reg)
  /-- XOR, R197. -/
  | xor (rs rt rd : Reg)
  /-- NOR, R198. -/
  | nor (rs rt rd : Reg)
  /-- SLT, R199. -/
  | slt (rs rt rd : Reg)
  /-- SLTU, R200. -/
  | sltu (rs rt rd : Reg)
  /-- ADDI, R201. -/
  | addi (rs rt : Reg) (imm : BitVec 16)
  /-- ADDIU, R202. -/
  | addiu (rs rt : Reg) (imm : BitVec 16)
  /-- SLTI, R203. -/
  | slti (rs rt : Reg) (imm : BitVec 16)
  /-- SLTIU, R204. -/
  | sltiu (rs rt : Reg) (imm : BitVec 16)
  /-- ANDI, R205. -/
  | andi (rs rt : Reg) (imm : BitVec 16)
  /-- ORI, R206. -/
  | ori (rs rt : Reg) (imm : BitVec 16)
  /-- XORI, R207. -/
  | xori (rs rt : Reg) (imm : BitVec 16)
  /-- LUI, R208. -/
  | lui (rt : Reg) (imm : BitVec 16)
  -- 32-bit ISA: shifts, multiply, divide (42_shift_muldiv32.md)
  /-- SLL, R221. -/
  | sll (rt rd : Reg) (sa : BitVec 5)
  /-- SRL, R222. -/
  | srl (rt rd : Reg) (sa : BitVec 5)
  /-- SRA, R223. -/
  | sra (rt rd : Reg) (sa : BitVec 5)
  /-- SLLV, R224. -/
  | sllv (rs rt rd : Reg)
  /-- SRLV, R225. -/
  | srlv (rs rt rd : Reg)
  /-- SRAV, R226. -/
  | srav (rs rt rd : Reg)
  /-- MULT, R228. -/
  | mult (rs rt rd : Reg)
  /-- MULTU, R229. -/
  | multu (rs rt rd : Reg)
  /-- DIV, R230. -/
  | div (rs rt : Reg)
  /-- DIVU, R231. -/
  | divu (rs rt : Reg)
  /-- MADD, R232. -/
  | madd (rs rt rd : Reg)
  /-- MADDU, R233. -/
  | maddu (rs rt rd : Reg)
  /-- MFHI, R234. -/
  | mfhi (rd : Reg)
  /-- MFLO, R235. -/
  | mflo (rd : Reg)
  /-- MTHI, R236. -/
  | mthi (rs : Reg)
  /-- MTLO, R237. -/
  | mtlo (rs : Reg)
  -- 32-bit ISA: jumps, branches, branch-likelies (43_jump_branch32.md)
  /-- J, R259. -/
  | j (target : BitVec 26)
  /-- JAL, R260. -/
  | jal (target : BitVec 26)
  /-- JALX, R253. -/
  | jalx (target : BitVec 26)
  /-- JR, R254. -/
  | jr (rs : Reg)
  /-- JALR, R255. -/
  | jalr (rs rd : Reg)
  /-- BEQ, R262. -/
  | beq (rs rt : Reg) (offset : BitVec 16)
  /-- BNE, R263. -/
  | bne (rs rt : Reg) (offset : BitVec 16)
  /-- BLEZ, R264. -/
  | blez (rs : Reg) (offset : BitVec 16)
  /-- BGTZ, R265. -/
  | bgtz (rs : Reg) (offset : BitVec 16)
  /-- BLTZ, R266. -/
  | bltz (rs : Reg) (offset : BitVec 16)
  /-- BGEZ, R267. -/
  | bgez (rs : Reg) (offset : BitVec 16)
  /-- BLTZAL, R269. -/
  | bltzal (rs : Reg) (offset : BitVec 16)
  /-- BGEZAL, R270. -/
  | bgezal (rs : Reg) (offset : BitVec 16)
  /-- BLTZL, R279. -/
  | bltzl (rs : Reg) (offset : BitVec 16)
  /-- BGEZL, R280. -/
  | bgezl (rs : Reg) (offset : BitVec 16)
  /-- BLTZALL, R281. -/
  | bltzall (rs : Reg) (offset : BitVec 16)
  /-- BGEZALL, R282. -/
  | bgezall (rs : Reg) (offset : BitVec 16)
  /-- BEQL, R272. -/
  | beql (rs rt : Reg) (offset : BitVec 16)
  /-- BNEL, R273. -/
  | bnel (rs rt : Reg) (offset : BitVec 16)
  /-- BLEZL, R274. -/
  | blezl (rs : Reg) (offset : BitVec 16)
  /-- BGTZL, R278. -/
  | bgtzl (rs : Reg) (offset : BitVec 16)
  -- 32-bit ISA: coprocessor, system control, special (44_coproc_special32.md)
  /-- MFC0, R296. -/
  | mfc0 (rt rd : Reg)
  /-- MTC0, R297. -/
  | mtc0 (rt rd : Reg)
  /-- CFC0, R305. -/
  | cfc0 (rt rd : Reg)
  /-- CTC0, R305. -/
  | ctc0 (rt rd : Reg)
  /-- MFC1, R292. -/
  | mfc1 (rt rd : Reg)
  /-- MTC1, R293. -/
  | mtc1 (rt rd : Reg)
  /-- CFC1, R294. -/
  | cfc1 (rt rd : Reg)
  /-- CTC1, R295. -/
  | ctc1 (rt rd : Reg)
  /-- COP1, R298. -/
  | cop1 (cofun : BitVec 25)
  /-- MFC2, R292. -/
  | mfc2 (rt rd : Reg)
  /-- MTC2, R293. -/
  | mtc2 (rt rd : Reg)
  /-- CFC2, R294. -/
  | cfc2 (rt rd : Reg)
  /-- CTC2, R295. -/
  | ctc2 (rt rd : Reg)
  /-- COP2, R298. -/
  | cop2 (cofun : BitVec 25)
  /-- MFC3, R292. -/
  | mfc3 (rt rd : Reg)
  /-- MTC3, R293. -/
  | mtc3 (rt rd : Reg)
  /-- CFC3, R294. -/
  | cfc3 (rt rd : Reg)
  /-- CTC3, R295. -/
  | ctc3 (rt rd : Reg)
  /-- COP3, R298. -/
  | cop3 (cofun : BitVec 25)
  /-- BC0F, R300. -/
  | bc0f (offset : BitVec 16)
  /-- BC0T, R301. -/
  | bc0t (offset : BitVec 16)
  /-- BC0FL, R302. -/
  | bc0fl (offset : BitVec 16)
  /-- BC0TL, R303. -/
  | bc0tl (offset : BitVec 16)
  /-- BC1F, R300. -/
  | bc1f (offset : BitVec 16)
  /-- BC1T, R301. -/
  | bc1t (offset : BitVec 16)
  /-- BC1FL, R302. -/
  | bc1fl (offset : BitVec 16)
  /-- BC1TL, R303. -/
  | bc1tl (offset : BitVec 16)
  /-- BC2F, R300. -/
  | bc2f (offset : BitVec 16)
  /-- BC2T, R301. -/
  | bc2t (offset : BitVec 16)
  /-- BC2FL, R302. -/
  | bc2fl (offset : BitVec 16)
  /-- BC2TL, R303. -/
  | bc2tl (offset : BitVec 16)
  /-- BC3F, R300. -/
  | bc3f (offset : BitVec 16)
  /-- BC3T, R301. -/
  | bc3t (offset : BitVec 16)
  /-- BC3FL, R302. -/
  | bc3fl (offset : BitVec 16)
  /-- BC3TL, R303. -/
  | bc3tl (offset : BitVec 16)
  /-- RFE, R306. -/
  | rfe
  /-- DERET, R307. -/
  | deret
  /-- TLBR, R312. -/
  | tlbr
  /-- TLBWI, R312. -/
  | tlbwi
  /-- TLBWR, R312. -/
  | tlbwr
  /-- TLBP, R312. -/
  | tlbp
  /-- CACHE, R308. -/
  | cache (base : Reg) (op : BitVec 5) (offset : BitVec 16)
  /-- LWCz, R313. -/
  | lwcz (z : BitVec 2) (base rt : Reg) (offset : BitVec 16)
  /-- SWCz, R313. -/
  | swcz (z : BitVec 2) (base rt : Reg) (offset : BitVec 16)
  /-- SYSCALL, R309. -/
  | syscall (code : BitVec 20)
  /-- BREAK, R310. -/
  | brk (code : BitVec 20)
  /-- SDBBP, R311. -/
  | sdbbp (code : BitVec 20)
  -- 16-bit ISA: loads and stores (45_loadstore16.md)
  /-- LB, R335. -/
  | lb16 (base ry : Reg3) (offset : BitVec 5)
  /-- LBU, R336. -/
  | lbu16 (base ry : Reg3) (offset : BitVec 5)
  /-- LH, R337. -/
  | lh16 (base ry : Reg3) (offset : BitVec 5)
  /-- LHU, R338. -/
  | lhu16 (base ry : Reg3) (offset : BitVec 5)
  /-- LW, R339. -/
  | lw16 (base ry : Reg3) (offset : BitVec 5)
  /-- LWPC, R341. -/
  | lwpc (rx : Reg3) (imm : BitVec 8)
  /-- LWSP, R342. -/
  | lwsp (rx : Reg3) (imm : BitVec 8)
  /-- SB, R343. -/
  | sb16 (base ry : Reg3) (offset : BitVec 5)
  /-- SH, R344. -/
  | sh16 (base ry : Reg3) (offset : BitVec 5)
  /-- SW, R345. -/
  | sw16 (base ry : Reg3) (offset : BitVec 5)
  /-- SWSP, R346. -/
  | swsp (rx : Reg3) (imm : BitVec 8)
  /-- SWRASP, R347. -/
  | swrasp (imm : BitVec 8)
  -- 16-bit ISA: arithmetic, compare, logical, moves (46_alu16.md)
  /-- ADDIU3, R353. -/
  | addiu3 (rx ry : Reg3) (imm : BitVec 4)
  /-- ADDIUPC, R354. -/
  | addiupc (rx : Reg3) (imm : BitVec 8)
  /-- ADDIU8, R355. -/
  | addiu8 (rx : Reg3) (imm : BitVec 8)
  /-- ADDIUSP, R356. -/
  | addiusp (rx : Reg3) (imm : BitVec 8)
  /-- ADJSP, R357. -/
  | adjsp (imm : BitVec 8)
  /-- ADDU, R358. -/
  | addu16 (rx ry rz : Reg3)
  /-- SUBU, R359. -/
  | subu16 (rx ry rz : Reg3)
  /-- NEG, R360. -/
  | neg16 (rx ry : Reg3)
  /-- SLT, R361. -/
  | slt16 (rx ry : Reg3)
  /-- SLTU, R362. -/
  | sltu16 (rx ry : Reg3)
  /-- SLTI, R363. -/
  | slti16 (rx : Reg3) (imm : BitVec 8)
  /-- SLTIU, R364. -/
  | sltiu16 (rx : Reg3) (imm : BitVec 8)
  /-- MOVR32, R365. -/
  | movr32 (ry : Reg3) (r32 : Reg)
  /-- MOV32R, R366. -/
  | mov32r (r32 : Reg) (rz : Reg3)
  /-- CMP, R367. -/
  | cmp16 (rx ry : Reg3)
  /-- CMPI, R368. -/
  | cmpi16 (rx : Reg3) (imm : BitVec 8)
  /-- AND, R369. -/
  | and16 (rx ry : Reg3)
  /-- OR, R370. -/
  | or16 (rx ry : Reg3)
  /-- XOR, R371. -/
  | xor16 (rx ry : Reg3)
  /-- NOT, R372. -/
  | not16 (rx ry : Reg3)
  /-- LI, R373. -/
  | li16 (rx : Reg3) (imm : BitVec 8)
  -- 16-bit ISA: shifts, multiply, divide (47_shift_muldiv16.md)
  /-- SLL, R381. -/
  | sll16 (rx ry : Reg3) (sa : BitVec 3)
  /-- SRL, R382. -/
  | srl16 (rx ry : Reg3) (sa : BitVec 3)
  /-- SRA, R383. -/
  | sra16 (rx ry : Reg3) (sa : BitVec 3)
  /-- SLLV, R384. -/
  | sllv16 (rx ry : Reg3)
  /-- SRLV, R385. -/
  | srlv16 (rx ry : Reg3)
  /-- SRAV, R386. -/
  | srav16 (rx ry : Reg3)
  /-- MULT, R388. -/
  | mult16 (rx ry : Reg3)
  /-- MULTU, R389. -/
  | multu16 (rx ry : Reg3)
  /-- DIV, R390. -/
  | div16 (rx ry : Reg3)
  /-- DIVU, R391. -/
  | divu16 (rx ry : Reg3)
  /-- MFHI, R392. -/
  | mfhi16 (rx : Reg3)
  /-- MFLO, R393. -/
  | mflo16 (rx : Reg3)
  -- 16-bit ISA: jumps and branches (48_jump_branch16.md)
  /-- JAL, R401. -/
  | jal16 (target : BitVec 26)
  /-- JALX, R402. -/
  | jalx16 (target : BitVec 26)
  /-- JR, R403. -/
  | jr16 (rx : Reg3)
  /-- JRRA, R404. -/
  | jrra
  /-- JALR, R405. -/
  | jalr16 (rx : Reg3)
  /-- BEQZ, R409. -/
  | beqz (rx : Reg3) (offset : BitVec 8)
  /-- BNEZ, R410. -/
  | bnez (rx : Reg3) (offset : BitVec 8)
  /-- BTEQZ, R411. -/
  | bteqz (offset : BitVec 8)
  /-- BTNEZ, R412. -/
  | btnez (offset : BitVec 8)
  /-- B, R413. -/
  | b (offset : BitVec 11)
  -- 16-bit ISA: special instructions and EXTEND (49_special_extend16.md)
  /-- BREAK, R421. -/
  | brk16 (code : BitVec 6)
  /-- SDBBP, R422. -/
  | sdbbp16 (code : BitVec 6)
  /-- EXTEND, R425. -/
  | extend (imm : BitVec 11) (low : BitVec 16)
  -- 16-bit ISA: extended forms, EXTEND and an extensible instruction (49_special_extend16.md R425)
  /-- LB.E, R335. -/
  | lbE (base ry : Reg3) (imm : BitVec 16)
  /-- LBU.E, R336. -/
  | lbuE (base ry : Reg3) (imm : BitVec 16)
  /-- LH.E, R337. -/
  | lhE (base ry : Reg3) (imm : BitVec 16)
  /-- LHU.E, R338. -/
  | lhuE (base ry : Reg3) (imm : BitVec 16)
  /-- LW.E, R339. -/
  | lwE (base ry : Reg3) (imm : BitVec 16)
  /-- LWPC.E, R341. -/
  | lwpcE (rx : Reg3) (imm : BitVec 16)
  /-- LWSP.E, R342. -/
  | lwspE (rx : Reg3) (imm : BitVec 16)
  /-- SB.E, R343. -/
  | sbE (base ry : Reg3) (imm : BitVec 16)
  /-- SH.E, R344. -/
  | shE (base ry : Reg3) (imm : BitVec 16)
  /-- SW.E, R345. -/
  | swE (base ry : Reg3) (imm : BitVec 16)
  /-- SWSP.E, R346. -/
  | swspE (rx : Reg3) (imm : BitVec 16)
  /-- SWRASP.E, R347. -/
  | swraspE (imm : BitVec 16)
  /-- ADDIU3.E, R353. -/
  | addiu3E (rx ry : Reg3) (imm : BitVec 15)
  /-- ADDIUPC.E, R354. -/
  | addiupcE (rx : Reg3) (imm : BitVec 16)
  /-- ADDIU8.E, R355. -/
  | addiu8E (rx : Reg3) (imm : BitVec 16)
  /-- ADDIUSP.E, R356. -/
  | addiuspE (rx : Reg3) (imm : BitVec 16)
  /-- ADJSP.E, R357. -/
  | adjspE (imm : BitVec 16)
  /-- SLTI.E, R363. -/
  | sltiE (rx : Reg3) (imm : BitVec 16)
  /-- SLTIU.E, R364. -/
  | sltiuE (rx : Reg3) (imm : BitVec 16)
  /-- CMPI.E, R368. -/
  | cmpiE (rx : Reg3) (imm : BitVec 16)
  /-- LI.E, R373. -/
  | liE (rx : Reg3) (imm : BitVec 16)
  /-- SLL.E, R381. -/
  | sllE (rx ry : Reg3) (sa : BitVec 5)
  /-- SRL.E, R382. -/
  | srlE (rx ry : Reg3) (sa : BitVec 5)
  /-- SRA.E, R383. -/
  | sraE (rx ry : Reg3) (sa : BitVec 5)
  /-- BEQZ.E, R409. -/
  | beqzE (rx : Reg3) (offset : BitVec 16)
  /-- BNEZ.E, R410. -/
  | bnezE (rx : Reg3) (offset : BitVec 16)
  /-- BTEQZ.E, R411. -/
  | bteqzE (offset : BitVec 16)
  /-- BTNEZ.E, R412. -/
  | btnezE (offset : BitVec 16)
  /-- B.E, R413. -/
  | bE (offset : BitVec 16)
  deriving DecidableEq, Repr

end Sys2Proof
end

