-- ==== Sys2Proof/WellFormed.lean ====
section
/-! DEFINITION. Which instructions of the syntax some code denotes. Every field is as wide as its encoding, so one
constructor only is constrained: EXTEND as an instruction of its own stands before a halfword that cannot be extended
(30_encoding.md R150); before an extensible halfword the pair is that instruction's extended form. -/

namespace Sys2Proof

/-- The extensible instructions, by their halfword: exactly those of 30_encoding.md R142 (49_special_extend16.md R425). -/
def isExtensible (low : Half) : Bool :=
  match (low.extractLsb' 11 5).toNat with
  | 0 | 1 | 2 | 4 | 5 => true                            -- ADDIUSP, ADDIUPC, B, BEQZ, BNEZ
  | 6 => low.extractLsb' 0 2 != 1#2                      -- SLL, SRL, SRA; F = 01 is reserved
  | 8 => low.extractLsb' 4 1 == 0#1                      -- ADDIU3; F = 1 is reserved
  | 9 | 10 | 11 => true                                  -- ADDIU8, SLTI, SLTIU
  | 12 => decide ((low.extractLsb' 8 3).toNat < 4)       -- BTEQZ, BTNEZ, SWRASP, ADJSP
  | 13 | 14 => true                                      -- LI, CMPI
  | 16 | 17 | 18 | 19 | 20 | 21 | 22 => true             -- LB, LH, LWSP, LW, LBU, LHU, LWPC
  | 24 | 25 | 26 | 27 => true                            -- SB, SH, SWSP, SW
  | _ => false

/-- Well-formed: the decoder answers with this instruction for some code. -/
def Instr.wf : Instr → Bool
  | .extend _ low => !isExtensible low
  | _ => true

end Sys2Proof
end

