-- ==== Sys2Proof/Decode.lean ====
section
/-! DEFINITION. The decoder of both instruction sets, total on any code, and after it the encoder, both written from the
formats and opcode maps of 30_encoding.md. -/

namespace Sys2Proof

/-- The bits of one instruction (20_memory.md R84): a word of the 32-bit ISA, a halfword of the 16-bit ISA, or two
halfwords of it (the 16-bit JAL and JALX, and every EXTEND pair), the one at the lower address first. -/
inductive Code where
  | word (w : Word)
  | half (h : Half)
  | pair (h0 h1 : Half)
  deriving DecidableEq, Repr

/-- What the decoder answers. -/
inductive Decoded where
  /-- An instruction. -/
  | instr (i : Instr)
  /-- An encoding that raises Reserved Instruction (30_encoding.md R131, R149). -/
  | reserved
  /-- An encoding of coprocessor z that raises Reserved Instruction after the usability check (R126). -/
  | reservedCop (z : BitVec 2)
  /-- A non-zero should-be-zero field (R132, decision D14). -/
  | nonZeroField
  /-- A non-zero should-be-zero field in an instruction of coprocessor z: the usability check comes first (R290). -/
  | nonZeroFieldCop (z : BitVec 2)
  /-- A COP0 operation the spec does not list (R127, decision D13). -/
  | unlistedCop0
  deriving DecidableEq, Repr

/-- The instruction `i` where its should-be-zero fields are zero (30_encoding.md R132). -/
def Decoded.when (zero : Bool) (i : Instr) : Decoded :=
  if zero then .instr i else .nonZeroField

/-- The instruction `i` of coprocessor z where its should-be-zero fields are zero. -/
def Decoded.whenCop (zero : Bool) (z : BitVec 2) (i : Instr) : Decoded :=
  if zero then .instr i else .nonZeroFieldCop z

/-! ### The fields of a 32-bit word (30_encoding.md R120) -/

/-- The major opcode, bits 31:26. -/
def opField (w : Word) : BitVec 6 := w.extractLsb' 26 6
/-- rs, also called base, bits 25:21. -/
def rsField (w : Word) : Reg := w.extractLsb' 21 5
/-- rt, bits 20:16. -/
def rtField (w : Word) : Reg := w.extractLsb' 16 5
/-- rd, bits 15:11. -/
def rdField (w : Word) : Reg := w.extractLsb' 11 5
/-- The shift amount, bits 10:6. -/
def saField (w : Word) : BitVec 5 := w.extractLsb' 6 5
/-- The function code, bits 5:0. -/
def fnField (w : Word) : BitVec 6 := w.extractLsb' 0 6
/-- The immediate, bits 15:0. -/
def immField (w : Word) : BitVec 16 := w.extractLsb' 0 16
/-- The jump target, bits 25:0. -/
def targetField (w : Word) : BitVec 26 := w.extractLsb' 0 26
/-- The code of SYSCALL, BREAK and SDBBP, bits 25:6. -/
def codeField (w : Word) : BitVec 20 := w.extractLsb' 6 20
/-- The cofun field, bits 24:0. -/
def cofunField (w : Word) : BitVec 25 := w.extractLsb' 0 25
/-- The coprocessor number, bits 27:26. -/
def zField (w : Word) : BitVec 2 := w.extractLsb' 26 2

/-- SPECIAL, by the function code (30_encoding.md R124). -/
def decodeSpecial (w : Word) : Decoded :=
  let rs := rsField w
  let rt := rtField w
  let rd := rdField w
  let sa := saField w
  match (fnField w).toNat with
  | 0 => .when (rs == 0#5) (.sll rt rd sa)
  | 2 => .when (rs == 0#5) (.srl rt rd sa)
  | 3 => .when (rs == 0#5) (.sra rt rd sa)
  | 4 => .when (sa == 0#5) (.sllv rs rt rd)
  | 6 => .when (sa == 0#5) (.srlv rs rt rd)
  | 7 => .when (sa == 0#5) (.srav rs rt rd)
  | 8 => .when (rt == 0#5 && rd == 0#5 && sa == 0#5) (.jr rs)
  | 9 => .when (rt == 0#5 && sa == 0#5) (.jalr rs rd)
  | 12 => .instr (.syscall (codeField w))
  | 13 => .instr (.brk (codeField w))
  | 14 => .instr (.sdbbp (codeField w))
  | 15 => .when (codeField w == 0#20) .sync
  | 16 => .when (rs == 0#5 && rt == 0#5 && sa == 0#5) (.mfhi rd)
  | 17 => .when (rt == 0#5 && rd == 0#5 && sa == 0#5) (.mthi rs)
  | 18 => .when (rs == 0#5 && rt == 0#5 && sa == 0#5) (.mflo rd)
  | 19 => .when (rt == 0#5 && rd == 0#5 && sa == 0#5) (.mtlo rs)
  | 24 => .when (sa == 0#5) (.mult rs rt rd)
  | 25 => .when (sa == 0#5) (.multu rs rt rd)
  | 26 => .when (rd == 0#5 && sa == 0#5) (.div rs rt)
  | 27 => .when (rd == 0#5 && sa == 0#5) (.divu rs rt)
  | 32 => .when (sa == 0#5) (.add rs rt rd)
  | 33 => .when (sa == 0#5) (.addu rs rt rd)
  | 34 => .when (sa == 0#5) (.sub rs rt rd)
  | 35 => .when (sa == 0#5) (.subu rs rt rd)
  | 36 => .when (sa == 0#5) (.and rs rt rd)
  | 37 => .when (sa == 0#5) (.or rs rt rd)
  | 38 => .when (sa == 0#5) (.xor rs rt rd)
  | 39 => .when (sa == 0#5) (.nor rs rt rd)
  | 42 => .when (sa == 0#5) (.slt rs rt rd)
  | 43 => .when (sa == 0#5) (.sltu rs rt rd)
  | _ => .reserved

/-- BCOND, by the sub-opcode in the rt field (30_encoding.md R125). -/
def decodeBcond (w : Word) : Decoded :=
  let rs := rsField w
  let off := immField w
  match (rtField w).toNat with
  | 0 => .instr (.bltz rs off)
  | 1 => .instr (.bgez rs off)
  | 2 => .instr (.bltzl rs off)
  | 3 => .instr (.bgezl rs off)
  | 16 => .instr (.bltzal rs off)
  | 17 => .instr (.bgezal rs off)
  | 18 => .instr (.bltzall rs off)
  | 19 => .instr (.bgezall rs off)
  | _ => .reserved

/-- MFCz for z = 0 to 3 (R292, R296). -/
def mfcOf (z : BitVec 2) (rt rd : Reg) : Instr :=
  match z with
  | 0#2 => .mfc0 rt rd | 1#2 => .mfc1 rt rd | 2#2 => .mfc2 rt rd | 3#2 => .mfc3 rt rd
/-- CFCz for z = 0 to 3 (R294, R305). -/
def cfcOf (z : BitVec 2) (rt rd : Reg) : Instr :=
  match z with
  | 0#2 => .cfc0 rt rd | 1#2 => .cfc1 rt rd | 2#2 => .cfc2 rt rd | 3#2 => .cfc3 rt rd
/-- MTCz for z = 0 to 3 (R293, R297). -/
def mtcOf (z : BitVec 2) (rt rd : Reg) : Instr :=
  match z with
  | 0#2 => .mtc0 rt rd | 1#2 => .mtc1 rt rd | 2#2 => .mtc2 rt rd | 3#2 => .mtc3 rt rd
/-- CTCz for z = 0 to 3 (R295, R305). -/
def ctcOf (z : BitVec 2) (rt rd : Reg) : Instr :=
  match z with
  | 0#2 => .ctc0 rt rd | 1#2 => .ctc1 rt rd | 2#2 => .ctc2 rt rd | 3#2 => .ctc3 rt rd
/-- BCzF for z = 0 to 3 (R300). -/
def bcfOf (z : BitVec 2) (off : BitVec 16) : Instr :=
  match z with
  | 0#2 => .bc0f off | 1#2 => .bc1f off | 2#2 => .bc2f off | 3#2 => .bc3f off
/-- BCzT for z = 0 to 3 (R301). -/
def bctOf (z : BitVec 2) (off : BitVec 16) : Instr :=
  match z with
  | 0#2 => .bc0t off | 1#2 => .bc1t off | 2#2 => .bc2t off | 3#2 => .bc3t off
/-- BCzFL for z = 0 to 3 (R302). -/
def bcflOf (z : BitVec 2) (off : BitVec 16) : Instr :=
  match z with
  | 0#2 => .bc0fl off | 1#2 => .bc1fl off | 2#2 => .bc2fl off | 3#2 => .bc3fl off
/-- BCzTL for z = 0 to 3 (R303). -/
def bctlOf (z : BitVec 2) (off : BitVec 16) : Instr :=
  match z with
  | 0#2 => .bc0tl off | 1#2 => .bc1tl off | 2#2 => .bc2tl off | 3#2 => .bc3tl off

/-- The COP0 operations, by the whole cofun field (30_encoding.md R127). -/
def decodeCop0Op (w : Word) : Decoded :=
  match (cofunField w).toNat with
  | 1 => .instr .tlbr
  | 2 => .instr .tlbwi
  | 6 => .instr .tlbwr
  | 8 => .instr .tlbp
  | 16 => .instr .rfe
  | 31 => .instr .deret
  | _ => .unlistedCop0

/-- COPz cofun for z = 0 to 3 (30_encoding.md R126, R127). -/
def decodeCopOp (w : Word) : Decoded :=
  match zField w with
  | 0#2 => decodeCop0Op w
  | 1#2 => .instr (.cop1 (cofunField w))
  | 2#2 => .instr (.cop2 (cofunField w))
  | 3#2 => .instr (.cop3 (cofunField w))

/-- The BCz group, by bits 20:16 (30_encoding.md R126, 44_coproc_special32.md R299). -/
def decodeBcz (w : Word) : Decoded :=
  let z := zField w
  let off := immField w
  match (rtField w).toNat with
  | 0 => .instr (bcfOf z off)
  | 1 => .instr (bctOf z off)
  | 2 => .instr (bcflOf z off)
  | 3 => .instr (bctlOf z off)
  | _ => .reservedCop z

/-- The coprocessor group, major opcode 0100zz, by bits 25:21 (30_encoding.md R126). -/
def decodeCop (w : Word) : Decoded :=
  let z := zField w
  let rt := rtField w
  let rd := rdField w
  let low := w.extractLsb' 0 11
  match (rsField w).toNat with
  | 0 => .whenCop (low == 0#11) z (mfcOf z rt rd)
  | 2 => .whenCop (low == 0#11) z (cfcOf z rt rd)
  | 4 => .whenCop (low == 0#11) z (mtcOf z rt rd)
  | 6 => .whenCop (low == 0#11) z (ctcOf z rt rd)
  | 8 => decodeBcz w
  | n => if 16 ≤ n then decodeCopOp w else .reservedCop z

/-- MADD and MADDU (30_encoding.md R128). -/
def decodeMadd (w : Word) : Decoded :=
  match (fnField w).toNat with
  | 0 => .when (saField w == 0#5) (.madd (rsField w) (rtField w) (rdField w))
  | 1 => .when (saField w == 0#5) (.maddu (rsField w) (rtField w) (rdField w))
  | _ => .reserved

/-- The 32-bit ISA, by the major opcode (30_encoding.md R123). -/
def decode32 (w : Word) : Decoded :=
  let rs := rsField w
  let rt := rtField w
  let imm := immField w
  match (opField w).toNat with
  | 0 => decodeSpecial w
  | 1 => decodeBcond w
  | 2 => .instr (.j (targetField w))
  | 3 => .instr (.jal (targetField w))
  | 4 => .instr (.beq rs rt imm)
  | 5 => .instr (.bne rs rt imm)
  | 6 => .when (rt == 0#5) (.blez rs imm)
  | 7 => .when (rt == 0#5) (.bgtz rs imm)
  | 8 => .instr (.addi rs rt imm)
  | 9 => .instr (.addiu rs rt imm)
  | 10 => .instr (.slti rs rt imm)
  | 11 => .instr (.sltiu rs rt imm)
  | 12 => .instr (.andi rs rt imm)
  | 13 => .instr (.ori rs rt imm)
  | 14 => .instr (.xori rs rt imm)
  | 15 => .when (rs == 0#5) (.lui rt imm)
  | 16 | 17 | 18 | 19 => decodeCop w
  | 20 => .instr (.beql rs rt imm)
  | 21 => .instr (.bnel rs rt imm)
  | 22 => .when (rt == 0#5) (.blezl rs imm)
  | 23 => .when (rt == 0#5) (.bgtzl rs imm)
  | 28 => decodeMadd w
  | 29 => .instr (.jalx (targetField w))
  | 32 => .instr (.lb rs rt imm)
  | 33 => .instr (.lh rs rt imm)
  | 34 => .instr (.lwl rs rt imm)
  | 35 => .instr (.lw rs rt imm)
  | 36 => .instr (.lbu rs rt imm)
  | 37 => .instr (.lhu rs rt imm)
  | 38 => .instr (.lwr rs rt imm)
  | 40 => .instr (.sb rs rt imm)
  | 41 => .instr (.sh rs rt imm)
  | 42 => .instr (.swl rs rt imm)
  | 43 => .instr (.sw rs rt imm)
  | 46 => .instr (.swr rs rt imm)
  | 47 => .instr (.cache rs rt imm)
  | 48 | 49 | 50 | 51 => .instr (.lwcz (zField w) rs rt imm)
  | 56 | 57 | 58 | 59 => .instr (.swcz (zField w) rs rt imm)
  | _ => .reserved

/-! ### The 16-bit ISA (30_encoding.md R135 to R150) -/

/-- The major opcode of a halfword, bits 15:11. -/
def op16Field (h : Half) : BitVec 5 := h.extractLsb' 11 5
/-- rx, bits 10:8. -/
def rxField (h : Half) : Reg3 := h.extractLsb' 8 3
/-- ry, bits 7:5. -/
def ryField (h : Half) : Reg3 := h.extractLsb' 5 3
/-- rz of the RRR format, and SA of the SHIFT format, bits 4:2. -/
def rzField (h : Half) : Reg3 := h.extractLsb' 2 3
/-- The 8-bit immediate, bits 7:0. -/
def imm8Field (h : Half) : BitVec 8 := h.extractLsb' 0 8
/-- The 5-bit immediate or function code, bits 4:0. -/
def imm5Field (h : Half) : BitVec 5 := h.extractLsb' 0 5
/-- The 6-bit code of BREAK and SDBBP, bits 10:5. -/
def code6Field (h : Half) : BitVec 6 := h.extractLsb' 5 6

/-- Does this first halfword start a two-halfword instruction (30_encoding.md R141)? -/
def isFirstOfTwo (h : Half) : Bool := op16Field h == 0b00011#5 || op16Field h == 0b11110#5

/-- JR and JALR, RR with F = 00000, by the ry field (30_encoding.md R148). -/
def decodeJr16 (h : Half) : Decoded :=
  match (ryField h).toNat with
  | 0 => .instr (.jr16 (rxField h))
  | 1 => .when (rxField h == 0#3) .jrra
  | 2 => .instr (.jalr16 (rxField h))
  | _ => .reserved

/-- The RR group, by F (30_encoding.md R148). -/
def decodeRr (h : Half) : Decoded :=
  let rx := rxField h
  let ry := ryField h
  match (imm5Field h).toNat with
  | 0 => decodeJr16 h
  | 1 => .instr (.sdbbp16 (code6Field h))
  | 2 => .instr (.slt16 rx ry)
  | 3 => .instr (.sltu16 rx ry)
  | 4 => .instr (.sllv16 rx ry)
  | 5 => .instr (.brk16 (code6Field h))
  | 6 => .instr (.srlv16 rx ry)
  | 7 => .instr (.srav16 rx ry)
  | 10 => .instr (.cmp16 rx ry)
  | 11 => .instr (.neg16 rx ry)
  | 12 => .instr (.and16 rx ry)
  | 13 => .instr (.or16 rx ry)
  | 14 => .instr (.xor16 rx ry)
  | 15 => .instr (.not16 rx ry)
  | 16 => .when (ry == 0#3) (.mfhi16 rx)
  | 18 => .when (ry == 0#3) (.mflo16 rx)
  | 24 => .instr (.mult16 rx ry)
  | 25 => .instr (.multu16 rx ry)
  | 26 => .instr (.div16 rx ry)
  | 27 => .instr (.divu16 rx ry)
  | _ => .reserved

/-- The I8 group, by F in bits 10:8 (30_encoding.md R146; the r32 fields are those of R137). -/
def decodeI8 (h : Half) : Decoded :=
  match (rxField h).toNat with
  | 0 => .instr (.bteqz (imm8Field h))
  | 1 => .instr (.btnez (imm8Field h))
  | 2 => .instr (.swrasp (imm8Field h))
  | 3 => .instr (.adjsp (imm8Field h))
  | 5 => .instr (.mov32r (h.extractLsb' 3 2 ++ h.extractLsb' 5 3) (h.extractLsb' 0 3))
  | 7 => .instr (.movr32 (ryField h) (imm5Field h))
  | _ => .reserved

/-- One halfword of the 16-bit ISA, by the major opcode (30_encoding.md R143 to R147). A halfword that starts a pair is
no instruction alone. -/
def decode16 (h : Half) : Decoded :=
  let rx := rxField h
  let ry := ryField h
  let imm8 := imm8Field h
  let imm5 := imm5Field h
  match (op16Field h).toNat with
  | 0 => .instr (.addiusp rx imm8)
  | 1 => .instr (.addiupc rx imm8)
  | 2 => .instr (.b (h.extractLsb' 0 11))
  | 4 => .instr (.beqz rx imm8)
  | 5 => .instr (.bnez rx imm8)
  | 6 =>
    match (h.extractLsb' 0 2).toNat with
    | 0 => .instr (.sll16 rx ry (rzField h))
    | 2 => .instr (.srl16 rx ry (rzField h))
    | 3 => .instr (.sra16 rx ry (rzField h))
    | _ => .reserved
  | 8 => if h.extractLsb' 4 1 == 0#1 then .instr (.addiu3 rx ry (h.extractLsb' 0 4)) else .reserved
  | 9 => .instr (.addiu8 rx imm8)
  | 10 => .instr (.slti16 rx imm8)
  | 11 => .instr (.sltiu16 rx imm8)
  | 12 => decodeI8 h
  | 13 => .instr (.li16 rx imm8)
  | 14 => .instr (.cmpi16 rx imm8)
  | 16 => .instr (.lb16 rx ry imm5)
  | 17 => .instr (.lh16 rx ry imm5)
  | 18 => .instr (.lwsp rx imm8)
  | 19 => .instr (.lw16 rx ry imm5)
  | 20 => .instr (.lbu16 rx ry imm5)
  | 21 => .instr (.lhu16 rx ry imm5)
  | 22 => .instr (.lwpc rx imm8)
  | 24 => .instr (.sb16 rx ry imm5)
  | 25 => .instr (.sh16 rx ry imm5)
  | 26 => .instr (.swsp rx imm8)
  | 27 => .instr (.sw16 rx ry imm5)
  | 28 =>
    match (h.extractLsb' 0 2).toNat with
    | 1 => .instr (.addu16 rx ry (rzField h))
    | 3 => .instr (.subu16 rx ry (rzField h))
    | _ => .reserved
  | 29 => decodeRr h
  | _ => .reserved

/-- The 16-bit immediate of an EXTEND pair (30_encoding.md R140). -/
def extImm (ext low : Half) : BitVec 16 := ext.extractLsb' 0 5 ++ ext.extractLsb' 5 6 ++ low.extractLsb' 0 5

/-- An EXTEND pair (30_encoding.md R140, R142): the extended form of its second halfword, or EXTEND misused where that
halfword cannot be extended (R150). -/
def decodeExtended (ext low : Half) : Decoded :=
  let rx := rxField low
  let ry := ryField low
  let imm := extImm ext low
  let sbz := ry == 0#3
  let sa := ext.extractLsb' 6 5
  let misused := Decoded.instr (.extend (ext.extractLsb' 0 11) low)
  let sbzShift := ext.extractLsb' 0 6 == 0#6 && rzField low == 0#3
  match (op16Field low).toNat with
  | 0 => .when sbz (.addiuspE rx imm)
  | 1 => .when sbz (.addiupcE rx imm)
  | 2 => .when (code6Field low == 0#6) (.bE imm)
  | 4 => .when sbz (.beqzE rx imm)
  | 5 => .when sbz (.bnezE rx imm)
  | 6 =>
    match (low.extractLsb' 0 2).toNat with
    | 0 => .when sbzShift (.sllE rx ry sa)
    | 2 => .when sbzShift (.srlE rx ry sa)
    | 3 => .when sbzShift (.sraE rx ry sa)
    | _ => misused
  | 8 =>
    if low.extractLsb' 4 1 == 0#1 then
      .instr (.addiu3E rx ry (ext.extractLsb' 0 4 ++ ext.extractLsb' 4 7 ++ low.extractLsb' 0 4))
    else misused
  | 9 => .when sbz (.addiu8E rx imm)
  | 10 => .when sbz (.sltiE rx imm)
  | 11 => .when sbz (.sltiuE rx imm)
  | 12 =>
    match rx.toNat with
    | 0 => .when sbz (.bteqzE imm)
    | 1 => .when sbz (.btnezE imm)
    | 2 => .when sbz (.swraspE imm)
    | 3 => .when sbz (.adjspE imm)
    | _ => misused
  | 13 => .when sbz (.liE rx imm)
  | 14 => .when sbz (.cmpiE rx imm)
  | 16 => .instr (.lbE rx ry imm)
  | 17 => .instr (.lhE rx ry imm)
  | 18 => .when sbz (.lwspE rx imm)
  | 19 => .instr (.lwE rx ry imm)
  | 20 => .instr (.lbuE rx ry imm)
  | 21 => .instr (.lhuE rx ry imm)
  | 22 => .when sbz (.lwpcE rx imm)
  | 24 => .instr (.sbE rx ry imm)
  | 25 => .instr (.shE rx ry imm)
  | 26 => .when sbz (.swspE rx imm)
  | 27 => .instr (.swE rx ry imm)
  | _ => misused

/-- Two halfwords of the 16-bit ISA: JAL and JALX (30_encoding.md R139), an extended instruction (R140), or EXTEND before
a halfword it cannot extend (R150). Any other first halfword starts no pair. -/
def decodePair (h0 h1 : Half) : Decoded :=
  if op16Field h0 == 0b00011#5 then
    let target := h0.extractLsb' 0 5 ++ h0.extractLsb' 5 5 ++ h1
    if h0.extractLsb' 10 1 == 0#1 then .instr (.jal16 target) else .instr (.jalx16 target)
  else if op16Field h0 == 0b11110#5 then
    decodeExtended h0 h1
  else .reserved

/-- The decoder, on any code. -/
def decodeCode : Code → Decoded
  | .word w => decode32 w
  | .half h => decode16 h
  | .pair h0 h1 => decodePair h0 h1

/-! ### Bytes (20_memory.md R82 to R84) -/

/-- The bytes of a halfword, lowest address first. -/
def halfBytes (big : Bool) (h : Half) : List Byte :=
  if big then [h.extractLsb' 8 8, h.extractLsb' 0 8] else [h.extractLsb' 0 8, h.extractLsb' 8 8]

/-- The bytes of a word, lowest address first. -/
def wordBytes (big : Bool) (w : Word) : List Byte :=
  if big then [w.extractLsb' 24 8, w.extractLsb' 16 8, w.extractLsb' 8 8, w.extractLsb' 0 8]
  else [w.extractLsb' 0 8, w.extractLsb' 8 8, w.extractLsb' 16 8, w.extractLsb' 24 8]

/-- The bytes of an instruction as memory holds them. -/
def Code.bytes (big : Bool) : Code → List Byte
  | .word w => wordBytes big w
  | .half h => halfBytes big h
  | .pair h0 h1 => halfBytes big h0 ++ halfBytes big h1

/-- The halfword two bytes hold. -/
def halfOf (big : Bool) (b0 b1 : Byte) : Half := if big then b0 ++ b1 else b1 ++ b0

/-- The word four bytes hold. -/
def wordOf (big : Bool) (b0 b1 b2 b3 : Byte) : Word :=
  if big then b0 ++ b1 ++ b2 ++ b3 else b3 ++ b2 ++ b1 ++ b0

/-- The instruction that starts a list of bytes in the given ISA mode: its code, and none where bytes are missing. -/
def codeOfBytes (big isa16 : Bool) : List Byte → Option Code
  | b0 :: b1 :: rest =>
    let h0 := halfOf big b0 b1
    match isa16, isFirstOfTwo h0, rest with
    | true, false, _ => some (.half h0)
    | true, true, b2 :: b3 :: _ => some (.pair h0 (halfOf big b2 b3))
    | false, _, b2 :: b3 :: _ => some (.word (wordOf big b0 b1 b2 b3))
    | _, _, _ => none
  | _ => none

/-- The instruction a decoding stands for, none where the decoder refuses or the encoding is reserved. -/
def Decoded.instr? : Decoded → Option Instr
  | .instr i => some i
  | _ => none

/-- The code of one row of the opcode table, numbered as the table numbers its bits (the halfword at the lower address in
bits 31:16), every bit above nbits zero. The table's two instruction sets overlap; log 36 says how this reads them. -/
def tableCode (nbits w : Nat) : Code :=
  if nbits ≤ 16 then
    let h := BitVec.ofNat 16 w
    if isFirstOfTwo h then .pair h 0#16 else .half h
  else
    let v := BitVec.ofNat 32 w
    let h0 := v.extractLsb' 16 16
    let h1 := v.extractLsb' 0 16
    if op16Field h0 == 0b11110#5 then .pair h0 h1
    else if op16Field h0 == 0b00011#5 && rtField v != 0#5 then .pair h0 h1
    else .word v

/-- Is the code one of the 16-bit ISA? -/
def Code.isa16 : Code → Bool
  | .word _ => false
  | _ => true

/-- The instruction the decoder reads from a row's word, laid out as a big-endian product stores it. -/
def decodeTableWord (nbits w : Nat) : Option Instr :=
  let c := tableCode nbits w
  (codeOfBytes true c.isa16 (c.bytes true)).bind fun c => (decodeCode c).instr?

/-! ### The encoder -/

/-- I format (30_encoding.md R120). -/
def iWord (op : BitVec 6) (rs rt : Reg) (imm : BitVec 16) : Word := op ++ rs ++ rt ++ imm
/-- R format. -/
def rWord (op : BitVec 6) (rs rt rd : Reg) (sa : BitVec 5) (fn : BitVec 6) : Word := op ++ rs ++ rt ++ rd ++ sa ++ fn
/-- J format. -/
def jWord (op : BitVec 6) (target : BitVec 26) : Word := op ++ target
/-- SPECIAL with a 20-bit code (30_encoding.md R121). -/
def codeWord (code : BitVec 20) (fn : BitVec 6) : Word := 0b000000#6 ++ code ++ fn
/-- A coprocessor move (30_encoding.md R126). -/
def copWord (z : BitVec 2) (sub rt rd : Reg) : Word := 0b0100#4 ++ z ++ sub ++ rt ++ rd ++ 0#11
/-- COPz cofun (30_encoding.md R126). -/
def cofunWord (z : BitVec 2) (cofun : BitVec 25) : Word := 0b0100#4 ++ z ++ 1#1 ++ cofun
/-- I format whose major opcode ends in a coprocessor number (30_encoding.md R123, 44_coproc_special32.md R299). -/
def zWord (op : BitVec 4) (z : BitVec 2) (rs rt : Reg) (imm : BitVec 16) : Word := op ++ z ++ rs ++ rt ++ imm

/-- RI format (30_encoding.md R135). -/
def riHalf (op : BitVec 5) (rx : Reg3) (imm : BitVec 8) : Half := op ++ rx ++ imm
/-- RRI and RR format. -/
def rriHalf (op : BitVec 5) (rx ry : Reg3) (imm : BitVec 5) : Half := op ++ rx ++ ry ++ imm
/-- RRR and SHIFT format. -/
def rrrHalf (op : BitVec 5) (rx ry rz : Reg3) (f : BitVec 2) : Half := op ++ rx ++ ry ++ rz ++ f
/-- RRI-A format. -/
def rriaHalf (rx ry : Reg3) (imm : BitVec 4) : Half := 0b01000#5 ++ rx ++ ry ++ 0#1 ++ imm
/-- I8_MOV32R format, with the register number rotated (30_encoding.md R137). -/
def mov32rHalf (r32 : Reg) (rz : Reg3) : Half :=
  0b01100#5 ++ 0b101#3 ++ r32.extractLsb' 0 3 ++ r32.extractLsb' 3 2 ++ rz
/-- I format. -/
def iHalf (op : BitVec 5) (imm : BitVec 11) : Half := op ++ imm
/-- RR format with a 6-bit code (30_encoding.md R148). -/
def code6Half (code : BitVec 6) (f : BitVec 5) : Half := 0b11101#5 ++ code ++ f
/-- The EXTEND halfword of a 16-bit immediate (30_encoding.md R140). -/
def extHalf (imm : BitVec 16) : Half := 0b11110#5 ++ imm.extractLsb' 5 6 ++ imm.extractLsb' 11 5
/-- The EXTEND halfword of EXT-RRI-A. -/
def extAHalf (imm : BitVec 15) : Half := 0b11110#5 ++ imm.extractLsb' 4 7 ++ imm.extractLsb' 11 4
/-- The EXTEND halfword of EXT-SHIFT. -/
def extShiftHalf (sa : BitVec 5) : Half := 0b11110#5 ++ sa ++ 0#6
/-- The first halfword of the 16-bit JAL and JALX (30_encoding.md R139). -/
def jal16Half (x : BitVec 1) (target : BitVec 26) : Half :=
  0b00011#5 ++ x ++ target.extractLsb' 16 5 ++ target.extractLsb' 21 5

/-- EXT-RI, EXT-RRI, EXT-I8 and EXT-I: rx and ry as the second halfword has them. -/
def extPair (op : BitVec 5) (rx ry : Reg3) (imm : BitVec 16) : Code :=
  .pair (extHalf imm) (rriHalf op rx ry (imm.extractLsb' 0 5))
/-- EXT-SHIFT. -/
def extShift (rx ry : Reg3) (sa : BitVec 5) (f : BitVec 2) : Code :=
  .pair (extShiftHalf sa) (rrrHalf 0b00110#5 rx ry 0#3 f)

/-- The code of an instruction (30_encoding.md). -/
def encode : Instr → Code
  | .lb base rt offset => .word (iWord 0b100000#6 base rt offset)
  | .lbu base rt offset => .word (iWord 0b100100#6 base rt offset)
  | .lh base rt offset => .word (iWord 0b100001#6 base rt offset)
  | .lhu base rt offset => .word (iWord 0b100101#6 base rt offset)
  | .lwl base rt offset => .word (iWord 0b100010#6 base rt offset)
  | .lwr base rt offset => .word (iWord 0b100110#6 base rt offset)
  | .lw base rt offset => .word (iWord 0b100011#6 base rt offset)
  | .sb base rt offset => .word (iWord 0b101000#6 base rt offset)
  | .sh base rt offset => .word (iWord 0b101001#6 base rt offset)
  | .swl base rt offset => .word (iWord 0b101010#6 base rt offset)
  | .swr base rt offset => .word (iWord 0b101110#6 base rt offset)
  | .sw base rt offset => .word (iWord 0b101011#6 base rt offset)
  | .sync => .word (codeWord 0#20 0b001111#6)
  | .add rs rt rd => .word (rWord 0b000000#6 rs rt rd 0#5 0b100000#6)
  | .addu rs rt rd => .word (rWord 0b000000#6 rs rt rd 0#5 0b100001#6)
  | .sub rs rt rd => .word (rWord 0b000000#6 rs rt rd 0#5 0b100010#6)
  | .subu rs rt rd => .word (rWord 0b000000#6 rs rt rd 0#5 0b100011#6)
  | .and rs rt rd => .word (rWord 0b000000#6 rs rt rd 0#5 0b100100#6)
  | .or rs rt rd => .word (rWord 0b000000#6 rs rt rd 0#5 0b100101#6)
  | .xor rs rt rd => .word (rWord 0b000000#6 rs rt rd 0#5 0b100110#6)
  | .nor rs rt rd => .word (rWord 0b000000#6 rs rt rd 0#5 0b100111#6)
  | .slt rs rt rd => .word (rWord 0b000000#6 rs rt rd 0#5 0b101010#6)
  | .sltu rs rt rd => .word (rWord 0b000000#6 rs rt rd 0#5 0b101011#6)
  | .addi rs rt imm => .word (iWord 0b001000#6 rs rt imm)
  | .addiu rs rt imm => .word (iWord 0b001001#6 rs rt imm)
  | .slti rs rt imm => .word (iWord 0b001010#6 rs rt imm)
  | .sltiu rs rt imm => .word (iWord 0b001011#6 rs rt imm)
  | .andi rs rt imm => .word (iWord 0b001100#6 rs rt imm)
  | .ori rs rt imm => .word (iWord 0b001101#6 rs rt imm)
  | .xori rs rt imm => .word (iWord 0b001110#6 rs rt imm)
  | .lui rt imm => .word (iWord 0b001111#6 0#5 rt imm)
  | .sll rt rd sa => .word (rWord 0b000000#6 0#5 rt rd sa 0b000000#6)
  | .srl rt rd sa => .word (rWord 0b000000#6 0#5 rt rd sa 0b000010#6)
  | .sra rt rd sa => .word (rWord 0b000000#6 0#5 rt rd sa 0b000011#6)
  | .sllv rs rt rd => .word (rWord 0b000000#6 rs rt rd 0#5 0b000100#6)
  | .srlv rs rt rd => .word (rWord 0b000000#6 rs rt rd 0#5 0b000110#6)
  | .srav rs rt rd => .word (rWord 0b000000#6 rs rt rd 0#5 0b000111#6)
  | .mult rs rt rd => .word (rWord 0b000000#6 rs rt rd 0#5 0b011000#6)
  | .multu rs rt rd => .word (rWord 0b000000#6 rs rt rd 0#5 0b011001#6)
  | .div rs rt => .word (rWord 0b000000#6 rs rt 0#5 0#5 0b011010#6)
  | .divu rs rt => .word (rWord 0b000000#6 rs rt 0#5 0#5 0b011011#6)
  | .madd rs rt rd => .word (rWord 0b011100#6 rs rt rd 0#5 0b000000#6)
  | .maddu rs rt rd => .word (rWord 0b011100#6 rs rt rd 0#5 0b000001#6)
  | .mfhi rd => .word (rWord 0b000000#6 0#5 0#5 rd 0#5 0b010000#6)
  | .mflo rd => .word (rWord 0b000000#6 0#5 0#5 rd 0#5 0b010010#6)
  | .mthi rs => .word (rWord 0b000000#6 rs 0#5 0#5 0#5 0b010001#6)
  | .mtlo rs => .word (rWord 0b000000#6 rs 0#5 0#5 0#5 0b010011#6)
  | .j target => .word (jWord 0b000010#6 target)
  | .jal target => .word (jWord 0b000011#6 target)
  | .jalx target => .word (jWord 0b011101#6 target)
  | .jr rs => .word (rWord 0b000000#6 rs 0#5 0#5 0#5 0b001000#6)
  | .jalr rs rd => .word (rWord 0b000000#6 rs 0#5 rd 0#5 0b001001#6)
  | .beq rs rt offset => .word (iWord 0b000100#6 rs rt offset)
  | .bne rs rt offset => .word (iWord 0b000101#6 rs rt offset)
  | .blez rs offset => .word (iWord 0b000110#6 rs 0#5 offset)
  | .bgtz rs offset => .word (iWord 0b000111#6 rs 0#5 offset)
  | .bltz rs offset => .word (iWord 0b000001#6 rs 0b00000#5 offset)
  | .bgez rs offset => .word (iWord 0b000001#6 rs 0b00001#5 offset)
  | .bltzal rs offset => .word (iWord 0b000001#6 rs 0b10000#5 offset)
  | .bgezal rs offset => .word (iWord 0b000001#6 rs 0b10001#5 offset)
  | .bltzl rs offset => .word (iWord 0b000001#6 rs 0b00010#5 offset)
  | .bgezl rs offset => .word (iWord 0b000001#6 rs 0b00011#5 offset)
  | .bltzall rs offset => .word (iWord 0b000001#6 rs 0b10010#5 offset)
  | .bgezall rs offset => .word (iWord 0b000001#6 rs 0b10011#5 offset)
  | .beql rs rt offset => .word (iWord 0b010100#6 rs rt offset)
  | .bnel rs rt offset => .word (iWord 0b010101#6 rs rt offset)
  | .blezl rs offset => .word (iWord 0b010110#6 rs 0#5 offset)
  | .bgtzl rs offset => .word (iWord 0b010111#6 rs 0#5 offset)
  | .mfc0 rt rd => .word (copWord 0#2 0b00000#5 rt rd)
  | .mtc0 rt rd => .word (copWord 0#2 0b00100#5 rt rd)
  | .cfc0 rt rd => .word (copWord 0#2 0b00010#5 rt rd)
  | .ctc0 rt rd => .word (copWord 0#2 0b00110#5 rt rd)
  | .mfc1 rt rd => .word (copWord 1#2 0b00000#5 rt rd)
  | .mtc1 rt rd => .word (copWord 1#2 0b00100#5 rt rd)
  | .cfc1 rt rd => .word (copWord 1#2 0b00010#5 rt rd)
  | .ctc1 rt rd => .word (copWord 1#2 0b00110#5 rt rd)
  | .cop1 cofun => .word (cofunWord 1#2 cofun)
  | .mfc2 rt rd => .word (copWord 2#2 0b00000#5 rt rd)
  | .mtc2 rt rd => .word (copWord 2#2 0b00100#5 rt rd)
  | .cfc2 rt rd => .word (copWord 2#2 0b00010#5 rt rd)
  | .ctc2 rt rd => .word (copWord 2#2 0b00110#5 rt rd)
  | .cop2 cofun => .word (cofunWord 2#2 cofun)
  | .mfc3 rt rd => .word (copWord 3#2 0b00000#5 rt rd)
  | .mtc3 rt rd => .word (copWord 3#2 0b00100#5 rt rd)
  | .cfc3 rt rd => .word (copWord 3#2 0b00010#5 rt rd)
  | .ctc3 rt rd => .word (copWord 3#2 0b00110#5 rt rd)
  | .cop3 cofun => .word (cofunWord 3#2 cofun)
  | .bc0f offset => .word (zWord 0b0100#4 0#2 0b01000#5 0b00000#5 offset)
  | .bc0t offset => .word (zWord 0b0100#4 0#2 0b01000#5 0b00001#5 offset)
  | .bc0fl offset => .word (zWord 0b0100#4 0#2 0b01000#5 0b00010#5 offset)
  | .bc0tl offset => .word (zWord 0b0100#4 0#2 0b01000#5 0b00011#5 offset)
  | .bc1f offset => .word (zWord 0b0100#4 1#2 0b01000#5 0b00000#5 offset)
  | .bc1t offset => .word (zWord 0b0100#4 1#2 0b01000#5 0b00001#5 offset)
  | .bc1fl offset => .word (zWord 0b0100#4 1#2 0b01000#5 0b00010#5 offset)
  | .bc1tl offset => .word (zWord 0b0100#4 1#2 0b01000#5 0b00011#5 offset)
  | .bc2f offset => .word (zWord 0b0100#4 2#2 0b01000#5 0b00000#5 offset)
  | .bc2t offset => .word (zWord 0b0100#4 2#2 0b01000#5 0b00001#5 offset)
  | .bc2fl offset => .word (zWord 0b0100#4 2#2 0b01000#5 0b00010#5 offset)
  | .bc2tl offset => .word (zWord 0b0100#4 2#2 0b01000#5 0b00011#5 offset)
  | .bc3f offset => .word (zWord 0b0100#4 3#2 0b01000#5 0b00000#5 offset)
  | .bc3t offset => .word (zWord 0b0100#4 3#2 0b01000#5 0b00001#5 offset)
  | .bc3fl offset => .word (zWord 0b0100#4 3#2 0b01000#5 0b00010#5 offset)
  | .bc3tl offset => .word (zWord 0b0100#4 3#2 0b01000#5 0b00011#5 offset)
  | .rfe => .word (cofunWord 0#2 16#25)
  | .deret => .word (cofunWord 0#2 31#25)
  | .tlbr => .word (cofunWord 0#2 1#25)
  | .tlbwi => .word (cofunWord 0#2 2#25)
  | .tlbwr => .word (cofunWord 0#2 6#25)
  | .tlbp => .word (cofunWord 0#2 8#25)
  | .cache base op offset => .word (iWord 0b101111#6 base op offset)
  | .lwcz z base rt offset => .word (zWord 0b1100#4 z base rt offset)
  | .swcz z base rt offset => .word (zWord 0b1110#4 z base rt offset)
  | .syscall code => .word (codeWord code 0b001100#6)
  | .brk code => .word (codeWord code 0b001101#6)
  | .sdbbp code => .word (codeWord code 0b001110#6)
  | .lb16 base ry offset => .half (rriHalf 0b10000#5 base ry offset)
  | .lbu16 base ry offset => .half (rriHalf 0b10100#5 base ry offset)
  | .lh16 base ry offset => .half (rriHalf 0b10001#5 base ry offset)
  | .lhu16 base ry offset => .half (rriHalf 0b10101#5 base ry offset)
  | .lw16 base ry offset => .half (rriHalf 0b10011#5 base ry offset)
  | .lwpc rx imm => .half (riHalf 0b10110#5 rx imm)
  | .lwsp rx imm => .half (riHalf 0b10010#5 rx imm)
  | .sb16 base ry offset => .half (rriHalf 0b11000#5 base ry offset)
  | .sh16 base ry offset => .half (rriHalf 0b11001#5 base ry offset)
  | .sw16 base ry offset => .half (rriHalf 0b11011#5 base ry offset)
  | .swsp rx imm => .half (riHalf 0b11010#5 rx imm)
  | .swrasp imm => .half (riHalf 0b01100#5 0b010#3 imm)
  | .addiu3 rx ry imm => .half (rriaHalf rx ry imm)
  | .addiupc rx imm => .half (riHalf 0b00001#5 rx imm)
  | .addiu8 rx imm => .half (riHalf 0b01001#5 rx imm)
  | .addiusp rx imm => .half (riHalf 0b00000#5 rx imm)
  | .adjsp imm => .half (riHalf 0b01100#5 0b011#3 imm)
  | .addu16 rx ry rz => .half (rrrHalf 0b11100#5 rx ry rz 0b01#2)
  | .subu16 rx ry rz => .half (rrrHalf 0b11100#5 rx ry rz 0b11#2)
  | .neg16 rx ry => .half (rriHalf 0b11101#5 rx ry 0b01011#5)
  | .slt16 rx ry => .half (rriHalf 0b11101#5 rx ry 0b00010#5)
  | .sltu16 rx ry => .half (rriHalf 0b11101#5 rx ry 0b00011#5)
  | .slti16 rx imm => .half (riHalf 0b01010#5 rx imm)
  | .sltiu16 rx imm => .half (riHalf 0b01011#5 rx imm)
  | .movr32 ry r32 => .half (rriHalf 0b01100#5 0b111#3 ry r32)
  | .mov32r r32 rz => .half (mov32rHalf r32 rz)
  | .cmp16 rx ry => .half (rriHalf 0b11101#5 rx ry 0b01010#5)
  | .cmpi16 rx imm => .half (riHalf 0b01110#5 rx imm)
  | .and16 rx ry => .half (rriHalf 0b11101#5 rx ry 0b01100#5)
  | .or16 rx ry => .half (rriHalf 0b11101#5 rx ry 0b01101#5)
  | .xor16 rx ry => .half (rriHalf 0b11101#5 rx ry 0b01110#5)
  | .not16 rx ry => .half (rriHalf 0b11101#5 rx ry 0b01111#5)
  | .li16 rx imm => .half (riHalf 0b01101#5 rx imm)
  | .sll16 rx ry sa => .half (rrrHalf 0b00110#5 rx ry sa 0b00#2)
  | .srl16 rx ry sa => .half (rrrHalf 0b00110#5 rx ry sa 0b10#2)
  | .sra16 rx ry sa => .half (rrrHalf 0b00110#5 rx ry sa 0b11#2)
  | .sllv16 rx ry => .half (rriHalf 0b11101#5 rx ry 0b00100#5)
  | .srlv16 rx ry => .half (rriHalf 0b11101#5 rx ry 0b00110#5)
  | .srav16 rx ry => .half (rriHalf 0b11101#5 rx ry 0b00111#5)
  | .mult16 rx ry => .half (rriHalf 0b11101#5 rx ry 0b11000#5)
  | .multu16 rx ry => .half (rriHalf 0b11101#5 rx ry 0b11001#5)
  | .div16 rx ry => .half (rriHalf 0b11101#5 rx ry 0b11010#5)
  | .divu16 rx ry => .half (rriHalf 0b11101#5 rx ry 0b11011#5)
  | .mfhi16 rx => .half (rriHalf 0b11101#5 rx 0#3 0b10000#5)
  | .mflo16 rx => .half (rriHalf 0b11101#5 rx 0#3 0b10010#5)
  | .jal16 target => .pair (jal16Half 0#1 target) (target.extractLsb' 0 16)
  | .jalx16 target => .pair (jal16Half 1#1 target) (target.extractLsb' 0 16)
  | .jr16 rx => .half (rriHalf 0b11101#5 rx 0#3 0#5)
  | .jrra => .half (rriHalf 0b11101#5 0#3 1#3 0#5)
  | .jalr16 rx => .half (rriHalf 0b11101#5 rx 2#3 0#5)
  | .beqz rx offset => .half (riHalf 0b00100#5 rx offset)
  | .bnez rx offset => .half (riHalf 0b00101#5 rx offset)
  | .bteqz offset => .half (riHalf 0b01100#5 0b000#3 offset)
  | .btnez offset => .half (riHalf 0b01100#5 0b001#3 offset)
  | .b offset => .half (iHalf 0b00010#5 offset)
  | .brk16 code => .half (code6Half code 0b00101#5)
  | .sdbbp16 code => .half (code6Half code 0b00001#5)
  | .extend imm low => .pair (iHalf 0b11110#5 imm) low
  | .lbE base ry imm => extPair 0b10000#5 base ry imm
  | .lbuE base ry imm => extPair 0b10100#5 base ry imm
  | .lhE base ry imm => extPair 0b10001#5 base ry imm
  | .lhuE base ry imm => extPair 0b10101#5 base ry imm
  | .lwE base ry imm => extPair 0b10011#5 base ry imm
  | .lwpcE rx imm => extPair 0b10110#5 rx 0#3 imm
  | .lwspE rx imm => extPair 0b10010#5 rx 0#3 imm
  | .sbE base ry imm => extPair 0b11000#5 base ry imm
  | .shE base ry imm => extPair 0b11001#5 base ry imm
  | .swE base ry imm => extPair 0b11011#5 base ry imm
  | .swspE rx imm => extPair 0b11010#5 rx 0#3 imm
  | .swraspE imm => extPair 0b01100#5 0b010#3 0#3 imm
  | .addiu3E rx ry imm => .pair (extAHalf imm) (rriaHalf rx ry (imm.extractLsb' 0 4))
  | .addiupcE rx imm => extPair 0b00001#5 rx 0#3 imm
  | .addiu8E rx imm => extPair 0b01001#5 rx 0#3 imm
  | .addiuspE rx imm => extPair 0b00000#5 rx 0#3 imm
  | .adjspE imm => extPair 0b01100#5 0b011#3 0#3 imm
  | .sltiE rx imm => extPair 0b01010#5 rx 0#3 imm
  | .sltiuE rx imm => extPair 0b01011#5 rx 0#3 imm
  | .cmpiE rx imm => extPair 0b01110#5 rx 0#3 imm
  | .liE rx imm => extPair 0b01101#5 rx 0#3 imm
  | .sllE rx ry sa => extShift rx ry sa 0b00#2
  | .srlE rx ry sa => extShift rx ry sa 0b10#2
  | .sraE rx ry sa => extShift rx ry sa 0b11#2
  | .beqzE rx offset => extPair 0b00100#5 rx 0#3 offset
  | .bnezE rx offset => extPair 0b00101#5 rx 0#3 offset
  | .bteqzE offset => extPair 0b01100#5 0b000#3 0#3 offset
  | .btnezE offset => extPair 0b01100#5 0b001#3 0#3 offset
  | .bE offset => extPair 0b00010#5 0#3 0#3 offset

end Sys2Proof
end

