-- ==== Sys2Proof/Config.lean ====
section
/-! DEFINITION. What a product fixes (00_scope.md R7) and the values the spec leaves open (93_implementation_defined.md):
the latter are free values, opaque constants no proof can evaluate. -/

namespace Sys2Proof.Config

/-- A range of physical addresses, both ends included. -/
structure AddressRange where
  lo : Nat
  hi : Nat
  deriving DecidableEq, Repr

/-- The parameters a product and its platform fix for the whole run (00_scope.md R7). -/
structure Product where
  /-- `BIG_ENDIAN`: the byte order, sampled at reset and constant afterwards (20_memory.md R81). -/
  bigEndian : Bool
  /-- `HAS_WRITE_BUFFER`: with one, a store never raises a bus error (60_exceptions.md R466). -/
  writeBuffer : Bool
  /-- `PRID_REV`: the revision field of PRId (10_state.md R57). -/
  pridRev : BitVec 8
  /-- Where the platform declares devices, by physical address (20_memory.md R93, decision D26; log 51): the rest of the
  address space outside the reserved ranges is memory. -/
  devices : List AddressRange
  deriving DecidableEq, Repr

/-- Does a device of the platform answer at this physical address? -/
def Product.isDevice (p : Product) (pa : Nat) : Bool := p.devices.any fun r => decide (r.lo ≤ pa) && decide (pa ≤ r.hi)

/-- The instruction-fetch window of 20_memory.md R103 (decision D5), in instructions. -/
def ifetchWindow : Nat := 8

/-- The places where the spec says that a value is `any value`: one name per place, so that two open values of one
step are independent. -/
inductive FreeSite where
  /-- The register read right after the MFC0 that loads it (93_implementation_defined.md U17). -/
  | afterMfc0
  /-- HI after a division the spec gives no result for (U7, U8). -/
  | divHi
  /-- LO after a division the spec gives no result for (U7, U8). -/
  | divLo
  /-- The destination of a load that met a bus error (U5). -/
  | loadBusError
  /-- A byte, by physical address, that a store which met a bus error addressed (U31). -/
  | storeBusError (pa : Nat)
  /-- The instruction word a fetch that met a bus error in debug mode delivers (60_exceptions.md R495(a)). -/
  | fetchBusError
  /-- Cause.CE after an exception other than CpU (U13). -/
  | causeCe
  /-- Cause.ExcCode after NMI (U13). -/
  | causeExcCode
  /-- EPC of a data bus error outside the two defined cases (U6). -/
  | busErrorEpc
  /-- Cause.BD of a data bus error outside the two defined cases (U6). -/
  | busErrorBd
  /-- Status after an RFE directly after an MTC0 or MFC0 of Status (U16). -/
  | statusAfterRfe
  /-- Debug after a DERET directly after an MTC0 or MFC0 of Debug (U18). -/
  | debugAfterDeret
  /-- Where a DERET too close behind an MTC0 to DEPC goes (70_reset_and_hazards.md R536(d)). -/
  | deretTarget
  /-- What MFC0 reads from IE (U30). -/
  | ieRead
  /-- A byte a device delivers, by physical address (20_memory.md R93; log 51). -/
  | deviceByte (pa : Nat)
  /-- The Debug bits whose read value is unspecified (10_state.md R59). -/
  | debugReserved
  /-- A general register after a RESET event (U1). -/
  | resetGpr (r : Nat)
  /-- HI after a RESET event (U1). -/
  | resetHi
  /-- LO after a RESET event (U1). -/
  | resetLo
  /-- A CP0 register's X fields after a RESET event (U1), by register number. -/
  | resetCp0 (n : Nat)
  /-- A data register of coprocessor z after a COPz operation or a RESET event (44_coproc_special32.md R298). -/
  | copData (z r : Nat)
  /-- A control register of coprocessor z after a COPz operation or a RESET event (R298). -/
  | copCtrl (z r : Nat)
  /-- The condition line of coprocessor z after a COPz operation (R298). -/
  | copCondition (z : Nat)
  deriving DecidableEq, Repr

/-- The free values: the word at a site, fresh for every value of the model's counter. It has no body, so nothing can
be proved of it; log 7. -/
opaque freeWord : Nat → FreeSite → Word

/-- The contents of memory after a RESET event, any value in every byte (U1, 70_reset_and_hazards.md R521): bytes by physical address,
the rest reading as nothing written. It has no body either; log 10. -/
opaque freeMemory : Nat → List (Nat × Byte)

end Sys2Proof.Config
end

