-- ==== Sys2Proof/Machine/State.lean ====
section
/-! DEFINITION. The state of the machine: all the spec gives it (10_state.md R20 to R76), the hidden state its rules need
(R69 to R73, 70_reset_and_hazards.md R536, 20_memory.md R103), the product's constants and the inputs still to arrive
(00_scope.md R7). Plain data. -/

namespace Sys2Proof.Machine

open Sys2Proof.Config

/-- Why the machine stops: behaviour the spec calls undefined and gives no effect. Every one is safe: the model stops where
the hardware does something the spec does not say. -/
inductive Fault where
  /-- A jump, branch, branch-likely or DERET in a delay slot (U2, decision D31). Raised by every control transfer. Safe. -/
  | transferInDelaySlot
  /-- An extended instruction or a 16-bit JAL or JALX in a delay slot (U15). Raised by the step. Safe. -/
  | extendInDelaySlot
  /-- JALR with rd = rs (U3), or a linking branch that tests r31 (U4). Raised by those instructions. Safe. -/
  | linkOverwritesSource
  /-- SDBBP in debug mode (U9). Raised by SDBBP. Safe. -/
  | sdbbpInDebugMode
  /-- DERET outside debug mode (U10). Raised by DERET. Safe. -/
  | deretOutsideDebugMode
  /-- Config.Halt and Config.Doze written 1 together (U11). Raised by MTC0. Safe. -/
  | haltAndDoze
  /-- Status.RE written 1 (U12). Raised by MTC0. Safe. -/
  | reverseEndianWritten
  /-- A synchronous general exception in debug mode (U14). Raised wherever such an exception would be taken. Safe. -/
  | exceptionInDebugMode
  /-- A load or store directly before or after an MTC0 that changes Status.KUc (U21). Raised by either of the two. Safe. -/
  | modeChangeBesideAccess
  /-- An instruction a byte of which was changed by a store within the fetch window (U27). Raised by the fetch. Safe. -/
  | storeIntoFetchWindow
  deriving DecidableEq, Repr

/-- Why the model refuses: the spec does not say what the machine does. Every one is safe. -/
inductive Refusal where
  /-- An instruction without a meaning in this model, by its mnemonic. Safe. -/
  | notModelled (mnemonic : String)
  /-- A non-zero should-be-zero field (U25, decision D14). Raised by the step. Safe. -/
  | nonZeroField
  /-- MFC0 or MTC0 of a CP0 register number the spec does not list (U24, decision D10). Raised by those two. Safe. -/
  | unlistedCp0Register
  /-- An instruction of an absent coprocessor that software enabled (U28, decision D11). Raised by the coprocessor
  instructions of z = 1 to 3. Safe. -/
  | coprocessorAbsent
  /-- A COP0 operation the spec does not list (U29, decision D13). Raised by the step. Safe. -/
  | unlistedCop0Operation
  /-- CFC0 or CTC0 (U29, decision D13). Raised by those two. Safe. -/
  | controlRegisterOfCp0
  /-- CACHE, as the core has no cache (U19, decision D15). Raised by CACHE. Safe. -/
  | cacheAbsent
  /-- An access to a reserved address range, where the platform declares no device (U26, decision D26). Raised by loads, stores and
  the fetch. Safe. -/
  | reservedAddress
  deriving DecidableEq, Repr

/-- What is pending while a delay-slot instruction is still to complete (10_state.md R69). -/
structure Slot where
  /-- The address of the jump or branch, with the ISA mode in bit 0: what EPC or DEPC takes (60_exceptions.md R444). -/
  branchPc : Word
  /-- Where the machine goes after the slot, with the new ISA mode in bit 0. -/
  target : Word
  /-- The slot instruction is not executed: an untaken branch-likely (43_jump_branch32.md R271). -/
  nullify : Bool
  /-- The jump is a DERET, which leaves debug mode when it takes effect (44_coproc_special32.md R307). -/
  leavesDebug : Bool
  deriving DecidableEq, Repr

/-- What the instruction executed just before was, as far as a hazard rule asks (70_reset_and_hazards.md R536). -/
inductive Prev where
  /-- Nothing a rule asks about. -/
  | other
  /-- A load or a store (20_memory.md R105). -/
  | access
  /-- MFC0 of CP0 register `rd` into `rt` (R536(a), (b), (d)). -/
  | mfc0 (rt : Reg) (rd : Reg)
  /-- MTC0 to CP0 register `rd`; whether it changed Status.KUc (R536(b), (d), 20_memory.md R105). -/
  | mtc0 (rd : Reg) (modeChanged : Bool)
  /-- An exception was taken. -/
  | entry
  deriving DecidableEq, Repr

/-- A data bus error that waits for the next instruction boundary (60_exceptions.md R466(b)). -/
inductive DataBusError where
  /-- Of a load, with its destination register. -/
  | load (dest : Reg)
  /-- Of a store. -/
  | store
  deriving DecidableEq, Repr

/-- A coprocessor 1 to 3: whether the product has it, its data and its control registers (10_state.md R67). -/
structure Coprocessor where
  present : Bool
  data : Vector Word 32
  ctrl : Vector Word 32
  deriving DecidableEq, Repr

/-- One range of physical addresses whose accesses the platform answers with a bus error, by kind of access
(`BUS_ERROR(addr, kind)`, 00_scope.md R7). -/
structure BusErrorRange where
  lo : Nat
  hi : Nat
  onFetch : Bool
  onLoad : Bool
  onStore : Bool
  deriving DecidableEq, Repr

/-- What the outside of the core can do at an instruction boundary (00_scope.md R7, R13). -/
inductive InputEvent where
  /-- The interrupt controller presents this request level (`IRQ_LEVEL`). -/
  | irqLevel (level : BitVec 3)
  /-- A falling edge of the NMI signal (`NMI_EDGE`). -/
  | nmiEdge
  /-- The reset signal was asserted and deasserted (`RESET`). -/
  | reset
  /-- The interrupt controller's vector register was read (`IVR_READ`). -/
  | ivrRead
  /-- The coprocessor condition lines take these values (`CPCOND[z]` is bit z). -/
  | cpcond (lines : BitVec 4)
  /-- The platform's bus-error predicate becomes this one. -/
  | busErrors (ranges : List BusErrorRange)
  /-- Another bus master writes a byte at a physical address. -/
  | busWrite (pa : Word) (b : Byte)
  deriving DecidableEq, Repr

/-- The whole state. -/
structure State where
  /-- The general registers r0 to r31; r0 is always 0 (10_state.md R21). -/
  gpr : Vector Word 32
  /-- HI (R24). -/
  hi : Word
  /-- LO (R24). -/
  lo : Word
  /-- The program counter; bit 0 is the ISA-mode bit (R25). -/
  pc : Word
  /-- Config, CP0 register 3 (R34). -/
  config : Word
  /-- BadVAddr, CP0 register 8 (R39). -/
  badVAddr : Word
  /-- Status, CP0 register 12 (R40). -/
  status : Word
  /-- Cause, CP0 register 13, without IL, which mirrors `irqLevel` (R49, R52). -/
  cause : Word
  /-- EPC, CP0 register 14 (R56). -/
  epc : Word
  /-- Debug, CP0 register 16, without the bits of unspecified value (R59). -/
  debug : Word
  /-- DEPC, CP0 register 17 (R66). -/
  depc : Word
  /-- Memory, by physical address, in canonical form: addresses rising, no zero byte listed (R68). -/
  mem : List Host.Cell
  /-- The pending delay slot (R69). -/
  slot : Option Slot
  /-- What executed just before (70_reset_and_hazards.md R536). -/
  prev : Prev
  /-- Single step skips the next instruction (60_exceptions.md R487). -/
  ssSkip : Bool
  /-- An NMI waits (R71). -/
  nmiPending : Bool
  /-- A data bus error waits (60_exceptions.md R466), in debug mode until its end (log 52). -/
  dbe : Option DataBusError
  /-- Instructions that must still pass before a DERET may use a DEPC written by MTC0 (70_reset_and_hazards.md R536(d)). -/
  depcWait : Nat
  /-- The physical addresses changed by recent stores, with the instructions for which a fetch of them is refused
  (20_memory.md R103). -/
  storeWindow : List (Nat × Nat)
  /-- The interrupt request level presented (00_scope.md R7). -/
  irqLevel : BitVec 3
  /-- The coprocessor condition lines presented (00_scope.md R7). -/
  cpcond : BitVec 4
  /-- The condition lines while the previous instruction executed (44_coproc_special32.md R299). -/
  cpcondPrev : BitVec 4
  /-- Coprocessor 1 (R67). -/
  cop1 : Coprocessor
  /-- Coprocessor 2 (R67). -/
  cop2 : Coprocessor
  /-- Coprocessor 3 (R67). -/
  cop3 : Coprocessor
  /-- What the product fixes; no step changes it (00_scope.md R7). -/
  product : Product
  /-- Which accesses the platform answers with a bus error (00_scope.md R7). -/
  busErrors : List BusErrorRange
  /-- The inputs still to arrive: one list of events a step; none left means that nothing changes any more. -/
  inputs : List (List InputEvent)
  /-- The model's own counter: free values are fresh for each of its values. -/
  tick : Nat
  deriving DecidableEq, Repr

/-- An absent coprocessor (92_eei_decisions.md D11). -/
def Coprocessor.absent : Coprocessor :=
  { present := false, data := .replicate 32 0, ctrl := .replicate 32 0 }

/-- The machine right after reset (10_state.md R76, 70_reset_and_hazards.md R520). What the spec leaves unspecified is 0
here, a value the log names (logs 1 to 9). -/
def State.reset : State where
  gpr := .replicate 32 0
  hi := 0
  lo := 0
  pc := 0xBFC00000
  config := 0
  badVAddr := 0
  status := 0x0040E000      -- BEV = 1, NmI = 0, CMask = 7, KUc = IEc = 0
  cause := 0
  epc := 0
  debug := 0                -- DM = 0, SSt = 0
  depc := 0
  mem := []
  slot := none
  prev := .other
  ssSkip := false
  nmiPending := false
  dbe := none
  depcWait := 0
  storeWindow := []
  irqLevel := 0
  cpcond := 0
  cpcondPrev := 0
  cop1 := .absent
  cop2 := .absent
  cop3 := .absent
  product := { bigEndian := true, writeBuffer := false, pridRev := 0, devices := [] }
  busErrors := []
  inputs := []
  tick := 0

end Sys2Proof.Machine
end

