-- ==== Sys2Proof/Machine/Memory.lean ====
section
/-! DEFINITION. Memory as a canonical list of cells (10_state.md R68), byte order (20_memory.md R82, R83) and the fixed
address translation (R90, R91). -/

namespace Sys2Proof.Machine

/-- What a byte of memory that nothing has written reads as (log 6: the spec gives memory no contents at reset). -/
def unlistedByte : Byte := 0

/-- The byte at a physical address. -/
def memRead : List Host.Cell → Nat → Byte
  | [], _ => unlistedByte
  | c :: m, a => if a = c.1 then c.2 else memRead m a

/-- Memory with one byte written, in canonical form again. -/
def memWrite : List Host.Cell → Nat → Byte → List Host.Cell
  | [], a, b => if b = unlistedByte then [] else [(a, b)]
  | c :: m, a, b =>
    if a < c.1 then (if b = unlistedByte then c :: m else (a, b) :: c :: m)
    else if a = c.1 then (if b = unlistedByte then m else (a, b) :: m)
    else c :: memWrite m a b

/-- Memory with several bytes written, the first of the list first. -/
def memWriteAll (m : List Host.Cell) (cells : List Host.Cell) : List Host.Cell :=
  cells.foldl (fun m c => memWrite m c.1 c.2) m

/-- Memory of any contents, in canonical form (70_reset_and_hazards.md R521, U1). -/
def openMemory (tick : Nat) : List Host.Cell :=
  memWriteAll [] ((Config.freeMemory tick).filter fun c => decide (c.1 < 2 ^ 32))

/-- The canonical form from an address on: addresses strictly rising and physical, no byte listed that an unlisted
address reads as. -/
def memWfFrom (lo : Nat) : List Host.Cell → Bool
  | [] => true
  | c :: m => decide (lo ≤ c.1) && decide (c.1 < 2 ^ 32) && c.2 != unlistedByte && memWfFrom (c.1 + 1) m

/-- The canonical form of memory. -/
def Memory.wf (m : List Host.Cell) : Bool := memWfFrom 0 m

/-- The physical address of a virtual one (20_memory.md R91): kuseg is moved up by 0x40000000, kseg0 and kseg1 lose their
top three bits, kseg2 is mapped to itself. -/
def translate (va : Word) : Word :=
  if va.extractLsb' 31 1 == 0#1 then va + 0x40000000
  else if va.extractLsb' 30 1 == 0#1 then va &&& 0x1FFFFFFF
  else va

/-- Does a device of the platform answer at this virtual address (R93)? -/
def State.onDevice (s : State) (va : Word) : Bool := s.product.isDevice (translate va).toNat

/-- The byte at a virtual address: of memory, or any value where a device answers (log 51). Two reads of one device byte in one step
give the same value, which is a choice (log 55). -/
def State.byteAt (s : State) (va : Word) : Byte :=
  if s.onDevice va then (Config.freeWord s.tick (.deviceByte (translate va).toNat)).extractLsb' 0 8
  else memRead s.mem (translate va).toNat

/-- The halfword at a virtual address (R82, R83). -/
def State.halfAt (s : State) (va : Word) : Half :=
  halfOf s.product.bigEndian (s.byteAt va) (s.byteAt (va + 1))

/-- The word at a virtual address (R82, R83). -/
def State.wordAt (s : State) (va : Word) : Word :=
  wordOf s.product.bigEndian (s.byteAt va) (s.byteAt (va + 1)) (s.byteAt (va + 2)) (s.byteAt (va + 3))

/-- Consecutive bytes at the virtual addresses from `va` up. -/
def cellsFrom (va : Word) : List Byte → List (Word × Byte)
  | [] => []
  | b :: bs => (va, b) :: cellsFrom (va + 1) bs

/-- The same cells by physical address. -/
def physicalCells (cells : List (Word × Byte)) : List Host.Cell :=
  cells.map fun c => ((translate c.1).toNat, c.2)

/-- Those of the cells that lie in memory: what is stored to a device changes nothing the core can see again (log 51). -/
def State.memoryCells (s : State) (cells : List (Word × Byte)) : List Host.Cell :=
  (physicalCells cells).filter fun c => !s.product.isDevice c.1

end Sys2Proof.Machine
end

