-- ==== Sys2Proof/Machine/Ops.lean ====
section
/-! DEFINITION. The shared operations: registers, the fields of the CP0 registers, operating modes, accesses to memory, the
sequencing of instructions, taking an exception and the return from one. -/

namespace Sys2Proof.Machine

open Sys2Proof.Config

/-- The outcome of an instruction or of a step. -/
abbrev Result := Host.Outcome State Fault Refusal

/-! ### General registers (10_state.md R21) -/

/-- A register file with register r written; a write to r0 is discarded. -/
def writeGpr (gpr : Vector Word 32) (r : Reg) (v : Word) : Vector Word 32 :=
  if r = 0#5 then gpr else gpr.set r.toNat v r.isLt

/-- The state with a general register written. -/
def State.setReg (r : Reg) (v : Word) (s : State) : State := { s with gpr := writeGpr s.gpr r v }

/-- Was the register loaded by an MFC0 directly before (70_reset_and_hazards.md R536(a))? -/
def Prev.loaded : Prev → Reg → Bool
  | .mfc0 rt _, r => rt == r
  | _, _ => false

/-- What an instruction reads from a general register: r0 is 0, and a register that the instruction directly before loaded
by MFC0 has any value (R536(a), U17). Two operands that read it get the same value, which is a choice (log 59). -/
def State.reg (s : State) (r : Reg) : Word :=
  if r = 0#5 then 0
  else if s.prev.loaded r then freeWord s.tick .afterMfc0
  else s.gpr[r.toNat]'r.isLt

/-! ### Fields of the CP0 registers and operating modes -/

/-- One bit of a register. -/
def bit (w : Word) (n : Nat) : Bool := w.extractLsb' n 1 == 1#1

/-- Debug.DM: debug mode (10_state.md R60). -/
def State.debugMode (s : State) : Bool := bit s.debug 30

/-- User mode: not debug mode, and Status.KUc = 1 (10_state.md R75). -/
def State.userMode (s : State) : Bool := !s.debugMode && bit s.status 1

/-- Status.CMask (10_state.md R45). -/
def cmask (status : Word) : BitVec 3 := status.extractLsb' 13 3

/-- Status with CMask replaced. -/
def setCmask (status : Word) (level : BitVec 3) : Word :=
  status.extractLsb' 16 16 ++ level ++ status.extractLsb' 0 13

/-- Config with Halt and Doze cleared (10_state.md R36). -/
def wake (config : Word) : Word := config &&& 0xFFFFFCFF

/-- Is the core in Halt mode (10_state.md R72)? -/
def State.halted (s : State) : Bool := bit s.config 8

/-- Is the core in Halt or Doze mode (10_state.md R72)? -/
def State.stopped (s : State) : Bool := bit s.config 8 || bit s.config 9

/-- The writable and hardware-kept bits of Status; the others read 0 (10_state.md R40). -/
def statusMask : Word := 0xF057EF3F

/-- The writable bits of Config (10_state.md R34). -/
def configMask : Word := 0x00000FB0

/-- The stored bits of Cause: BD, CE, Sw, ExcCode (10_state.md R49). -/
def causeMask : Word := 0xB0000F7C

/-- The stored bits of Debug (10_state.md R59). -/
def debugMask : Word := 0xC0005503

/-- The bits of Debug with an unspecified value (10_state.md R59). -/
def debugOpenMask : Word := 0x0000283C

/-- The value MFC0 reads from a CP0 register (10_state.md R34 to R66). IL mirrors the request level (R52); IE has
any value (R58). -/
def State.cp0Read (s : State) (n : Reg) : Word :=
  match n.toNat with
  | 3 => s.config
  | 8 => s.badVAddr
  | 12 => s.status
  | 13 => s.cause.extractLsb' 16 16 ++ s.irqLevel ++ s.cause.extractLsb' 0 13
  | 14 => s.epc
  | 15 => 0#16 ++ 0x2C#8 ++ s.product.pridRev
  | 16 => s.debug ||| (freeWord s.tick .debugReserved &&& debugOpenMask)
  | 17 => s.depc
  | _ => freeWord s.tick .ieRead

/-- Is the register number one of the nine the spec lists (10_state.md R20)? -/
def listedCp0 (n : Reg) : Bool :=
  n == 3#5 || n == 8#5 || n == 12#5 || n == 13#5 || n == 14#5 || n == 15#5 || n == 16#5 || n == 17#5 || n == 31#5

/-- Status after MTC0 (10_state.md R48): reserved bits stay 0, and a 1 written to NmI clears it (R44). -/
def statusWritten (old v : Word) : Word :=
  (v &&& 0xF047EF3F) ||| (old &&& 0x00100000 &&& ~~~v)

/-- Debug after MTC0 (10_state.md R62, R65): SSt takes the written bit, a 1 written to BsF clears it. -/
def debugWritten (old v : Word) : Word :=
  (old &&& 0xFFFFFEFF &&& ~~~(v &&& 0x00000400)) ||| (v &&& 0x00000100)

/-- The state with a CP0 register written by MTC0: only its writable fields change (10_state.md R34 to R66). -/
def State.cp0Write (n : Reg) (v : Word) (s : State) : State :=
  match n.toNat with
  | 3 => if bit s.config 7 && !s.debugMode then s else { s with config := v &&& configMask }
  | 12 => { s with status := statusWritten s.status v }
  | 13 => { s with cause := (s.cause &&& 0xFFFFF0FF) ||| (v &&& 0x00000F00) }
  | 14 => { s with epc := v }
  | 16 => { s with debug := debugWritten s.debug v }
  | 17 => { s with depc := v, depcWait := 3 }
  | 31 => { s with status := (s.status &&& 0xFFFFFFFE) ||| (if v = 0 then 0 else 1) }
  | _ => s

/-! ### Sequencing (10_state.md R27, R69) -/

/-- The address of the instruction at the program counter (10_state.md R25). -/
def State.instrAddr (s : State) : Word := s.pc &&& 0xFFFFFFFE

/-- The ISA mode: true is the 16-bit ISA (10_state.md R25). -/
def State.isa16 (s : State) : Bool := bit s.pc 0

/-- Where the machine is after the instruction at the program counter, `len` bytes long, unless it jumps: behind it, or at
the pending target when it is a delay-slot instruction. -/
def State.nextPc (s : State) (len : Word) : Word :=
  match s.slot with
  | some k => k.target
  | none => s.pc + len

/-- Does the instruction at the program counter complete a DERET, as its delay-slot instruction? -/
def State.leavesDebug (s : State) : Bool :=
  match s.slot with
  | some k => k.leavesDebug
  | none => false

/-- The instruction completes: the program counter moves on, a pending jump takes effect, and the end of a DERET leaves
debug mode and exempts the next instruction from single step (44_coproc_special32.md R307, 60_exceptions.md R487). -/
def State.finish (len : Word) (s : State) : State :=
  { s with
    pc := s.nextPc len
    slot := none
    prev := .other
    ssSkip := s.leavesDebug
    debug := if s.leavesDebug then s.debug &&& 0xBFFFFFFF else s.debug }

/-- The same for an instruction some hazard rule asks about. -/
def State.finishAs (p : Prev) (len : Word) (s : State) : State := { s.finish len with prev := p }

/-- A jump or branch completes and its delay slot is next (43_jump_branch32.md R250). -/
def State.startTransfer (len target : Word) (nullify leavesDebug : Bool) (s : State) : State :=
  { s with
    pc := s.pc + len
    slot := some { branchPc := s.pc, target := target, nullify := nullify, leavesDebug := leavesDebug }
    prev := .other
    ssSkip := false }

/-- A 16-bit branch completes; it has no delay slot (48_jump_branch16.md R408). -/
def State.branchTo (target : Word) (s : State) : State :=
  { s with pc := target, slot := none, prev := .other, ssSkip := false }

/-! ### Taking an exception (60_exceptions.md R441 to R453) -/

/-- The general exceptions other than Reset (60_exceptions.md R453), with what their entry needs. -/
inductive Exn where
  | nmi
  | intHw
  | intSw (i : BitVec 2)
  | adel (va : Word)
  | ades (va : Word)
  | ibe
  | dbe
  | sys
  | bp
  | ri
  | cpu (z : BitVec 2)
  | ov
  deriving DecidableEq, Repr

/-- The exception code (R453); NMI has none. -/
def Exn.code : Exn → Option (BitVec 5)
  | .nmi => none
  | .intHw => some 0
  | .intSw _ => some 0
  | .adel _ => some 4
  | .ades _ => some 5
  | .ibe => some 6
  | .dbe => some 7
  | .sys => some 8
  | .bp => some 9
  | .ri => some 10
  | .cpu _ => some 11
  | .ov => some 12

/-- The vector, by Status.BEV (R445). -/
def Exn.vector (e : Exn) (bev : Bool) : Word :=
  match e with
  | .nmi => 0xBFC00000
  | .intHw => if bev then 0xBFC00260 else 0x80000160
  | .intSw i => (if bev then 0xBFC00210 else 0x80000110) + (0#26 ++ i ++ 0#4)
  | _ => if bev then 0xBFC00180 else 0x80000080

/-- The level of a software interrupt (R475). -/
def swiLevel (i : BitVec 2) : BitVec 3 := if i = 3#2 then 4#3 else 1#3

/-- The push of the Status stacks (R442): KU and IE move one place, PMask takes CMask. -/
def pushStatus (status : Word) : Word :=
  status.extractLsb' 19 13 ++ status.extractLsb' 13 3 ++ status.extractLsb' 6 10 ++ status.extractLsb' 0 4 ++ 0#2

/-- The pop of the Status stacks by RFE (R455, 44_coproc_special32.md R306). -/
def popStatus (status : Word) : Word :=
  status.extractLsb' 16 16 ++ status.extractLsb' 16 3 ++ status.extractLsb' 4 9 ++ status.extractLsb' 2 4

/-- Status after the entry of an exception (R448): the push, NmI on NMI (R463), the mask level of a software interrupt
(R479). -/
def Exn.statusAfter (e : Exn) (status : Word) : Word :=
  match e with
  | .nmi => pushStatus status ||| 0x00100000
  | .intSw i => setCmask (pushStatus status) (swiLevel i)
  | _ => pushStatus status

/-- Cause after the entry of an exception (R446): BD, CE, ExcCode; Sw is not changed. CE has any value unless the exception
is CpU, ExcCode on NMI (U13). -/
def Exn.causeAfter (e : Exn) (bd : Bool) (s : State) : Word :=
  let ce : BitVec 2 := match e with
    | .cpu z => z
    | _ => (freeWord s.tick .causeCe).extractLsb' 0 2
  let exc : BitVec 5 := match e.code with
    | some c => c
    | none => (freeWord s.tick .causeExcCode).extractLsb' 0 5
  BitVec.ofBool bd ++ 0#1 ++ ce ++ 0#16 ++ s.cause.extractLsb' 8 4 ++ 0#1 ++ exc ++ 0#2

/-- Config after the entry of an exception: NMI and hardware interrupts end Halt and Doze (R448). -/
def Exn.configAfter (e : Exn) (config : Word) : Word :=
  match e with
  | .nmi => wake config
  | .intHw => wake config
  | _ => config

/-- BadVAddr after the entry of an exception: only the address errors write it (R447). -/
def Exn.badVAddrAfter (e : Exn) (badVAddr : Word) : Word :=
  match e with
  | .adel va => va
  | .ades va => va
  | _ => badVAddr

/-- The address an exception saves and its BD bit (R444): that of the jump or branch for a delay-slot instruction. -/
def State.restart (s : State) : Word × Bool :=
  match s.slot with
  | some k => (k.branchPc, true)
  | none => (s.pc, false)

/-- What the entry of a general exception writes, but for the jump to the vector (R448). -/
def State.generalRegs (e : Exn) (epc : Word) (bd : Bool) (s : State) : State :=
  { s with
    badVAddr := e.badVAddrAfter s.badVAddr
    cause := e.causeAfter bd s
    epc := epc
    status := e.statusAfter s.status
    config := e.configAfter s.config
    nmiPending := s.nmiPending && e != .nmi }

/-- The jump to a vector: 32-bit ISA mode, no pending jump (R443, R445, R448). Every entry ends the hazards of the instruction
before it and the exemption from single step (logs 18, 20, 21, 24, 54), but not the wait of DERET behind an MTC0 to DEPC
(`depcWait`), which a debug entry does not end either (log 60). -/
def State.enterAt (vector : Word) (s : State) : State :=
  { s with pc := vector, slot := none, prev := .entry, ssSkip := false, storeWindow := [] }

/-- Taking a general exception whose saved address and BD bit are given (R448). -/
def State.takeWith (e : Exn) (epc : Word) (bd : Bool) (s : State) : State :=
  (s.generalRegs e epc bd).enterAt (e.vector (bit s.status 22))

/-- Taking a general exception at the instruction at the program counter (R448). -/
def State.take (e : Exn) (s : State) : State := s.takeWith e s.restart.1 s.restart.2

/-- An instruction raises a general exception (00_scope.md R10): it is taken, but in debug mode the spec leaves the
behaviour undefined (60_exceptions.md R495(f), U14). -/
def raise (e : Exn) (s : State) : Result :=
  if s.debugMode then .fault .exceptionInDebugMode else .next (s.take e)

/-- The two debug exceptions (60_exceptions.md R484). -/
inductive DebugKind where
  | singleStep
  | breakpoint
  deriving DecidableEq, Repr

/-- Debug after the entry of a debug exception (R490): BsF and SSt stay. -/
def debugAfter (k : DebugKind) (dbd nis oes : Bool) (old : Word) : Word :=
  BitVec.ofBool dbd ++ 1#1 ++ 0#15 ++ BitVec.ofBool nis ++ 0#1 ++ BitVec.ofBool oes ++ 0#1 ++ old.extractLsb' 10 1
    ++ 0#1 ++ old.extractLsb' 8 1 ++ 0#6 ++ BitVec.ofBool (k == .breakpoint) ++ BitVec.ofBool (k == .singleStep)

/-- Taking a debug exception (R490). -/
def State.takeDebug (k : DebugKind) (nis oes : Bool) (s : State) : State :=
  { s with debug := debugAfter k s.restart.2 nis oes s.debug, depc := s.restart.1 }.enterAt 0xBFC00200

/-- A debug exception and a general exception together (R492): the register effects of the general one first, but not its
jump. -/
def State.takeCoincident (k : DebugKind) (e : Exn) (s : State) : State :=
  (s.generalRegs e s.restart.1 s.restart.2).takeDebug k (e == .nmi) (e != .nmi)

/-! ### Accesses to memory (20_memory.md R97) -/

/-- The kinds of access. -/
inductive AccessKind where
  | fetch
  | load
  | store
  deriving DecidableEq, Repr

/-- What an access meets. -/
inductive Grant where
  /-- Misaligned, or a kernel address in user mode (R85, R86, R92). -/
  | addressError
  /-- A reserved range, and no device (R93). -/
  | reserved
  /-- The platform answers with a bus error (60_exceptions.md R466). -/
  | busError
  | granted
  deriving DecidableEq, Repr

/-- The reserved ranges 0x7F000000 to 0x7FFFFFFF and 0xFF000000 to 0xFFFFFFFF (R93). -/
def reservedRange (va : Word) : Bool := va.extractLsb' 24 8 == 0x7F#8 || va.extractLsb' 24 8 == 0xFF#8

/-- Does the range answer this kind of access to a physical address with a bus error? -/
def BusErrorRange.fails (k : AccessKind) (pa : Nat) (r : BusErrorRange) : Bool :=
  decide (r.lo ≤ pa) && decide (pa ≤ r.hi) && match k with
    | .fetch => r.onFetch
    | .load => r.onLoad
    | .store => r.onStore

/-- Is one of the bytes at these virtual addresses answered with a bus error? -/
def State.busFails (s : State) (k : AccessKind) (vas : List Word) : Bool :=
  vas.any fun va => s.busErrors.any (BusErrorRange.fails k (translate va).toNat)

/-- The checks of an access to effective address `ea`, which must be a multiple of `align`, to the bytes at `vas` (R97):
a reserved range is open only where a device answers for every byte (R93, decision D26). -/
def State.access (s : State) (k : AccessKind) (ea : Word) (align : Nat) (vas : List Word) : Grant :=
  if ea.toNat % align ≠ 0 || (s.userMode && bit ea 31) then .addressError
  else if reservedRange ea && !vas.all s.onDevice then .reserved
  else if s.busFails k vas then .busError
  else .granted

/-- The virtual addresses of `n` bytes from `va` up. -/
def bytesFrom (va : Word) : Nat → List Word
  | 0 => []
  | n + 1 => va :: bytesFrom (va + 1) n

/-- Was the instruction directly before an MTC0 that changed Status.KUc (20_memory.md R105)? -/
def Prev.changedMode : Prev → Bool
  | .mtc0 _ changed => changed
  | _ => false

/-- The effect on the core of a data access that met a bus error: pending until the next boundary, and in debug mode no
exception but Debug.BsF (60_exceptions.md R466(b), R495(a)). -/
def State.dataBusError (d : DataBusError) (s : State) : State :=
  { s with
    dbe := if s.debugMode then s.dbe else some d
    debug := if s.debugMode then s.debug ||| 0x00000400 else s.debug }

/-- A load of `len` bytes of instruction: the checks, then the destination takes `value` of the state (40_loadstore32.md
R171); after a bus error it has any value (U5). -/
def load (len : Word) (dest : Reg) (ea : Word) (align : Nat) (vas : List Word) (value : Word) (s : State) : Result :=
  if s.prev.changedMode then .fault .modeChangeBesideAccess
  else match s.access .load ea align vas with
    | .addressError => raise (.adel ea) s
    | .reserved => .refused .reservedAddress
    | .busError => .next (((s.setReg dest (freeWord s.tick .loadBusError)).dataBusError (.load dest)).finishAs .access len)
    | .granted => .next ((s.setReg dest value).finishAs .access len)

/-- The fetch window after some bytes are written: it remembers those that changed (20_memory.md R103). -/
def windowAfter (s : State) (cells : List Host.Cell) : List (Nat × Nat) :=
  (cells.filter fun c => memRead s.mem c.1 != c.2).map (fun c => (c.1, ifetchWindow)) ++ s.storeWindow

/-- The state with bytes stored at virtual addresses (20_memory.md R97, R100). Which addresses hold memory and which devices is
the platform's (R94; log 51). -/
def State.storeCells (cells : List (Word × Byte)) (s : State) : State :=
  { s with
    mem := memWriteAll s.mem (s.memoryCells cells)
    storeWindow := windowAfter s (s.memoryCells cells) }

/-- The state after a store that met a bus error: its bytes have any value (U31). -/
def State.spoilCells (cells : List (Word × Byte)) (s : State) : State :=
  s.storeCells (cells.map fun c => (c.1, (freeWord s.tick (.storeBusError (translate c.1).toNat)).extractLsb' 0 8))

/-- A store: the checks, then the bytes are written (40_loadstore32.md R172). A product with a write buffer never reports
its bus error (60_exceptions.md R466(b)). -/
def store (len : Word) (ea : Word) (align : Nat) (cells : List (Word × Byte)) (s : State) : Result :=
  if s.prev.changedMode then .fault .modeChangeBesideAccess
  else match s.access .store ea align (cells.map (·.1)) with
    | .addressError => raise (.ades ea) s
    | .reserved => .refused .reservedAddress
    | .busError =>
      if s.product.writeBuffer then .next ((s.spoilCells cells).finishAs .access len)
      else .next (((s.spoilCells cells).dataBusError .store).finishAs .access len)
    | .granted => .next ((s.storeCells cells).finishAs .access len)

/-! ### Guards shared by many instructions -/

/-- A control transfer must not stand in a delay slot (43_jump_branch32.md R252, 48_jump_branch16.md R406, U2). -/
def outsideSlot (f : Fault) (s : State) (body : Result) : Result :=
  match s.slot with
  | some _ => .fault f
  | none => body

/-- The usability check of an instruction of coprocessor z (44_coproc_special32.md R290): for z = 0 only user mode needs
Status.CU[0], for z = 1 to 3 every mode needs Status.CU[z]. -/
def State.usable (s : State) (z : BitVec 2) : Bool :=
  bit s.status (28 + z.toNat) || (z == 0#2 && !s.userMode)

/-- The check, then the rest of the instruction. -/
def ifUsable (z : BitVec 2) (s : State) (body : Result) : Result :=
  if s.usable z then body else raise (.cpu z) s

end Sys2Proof.Machine
end

