-- ==== Sys2Proof/Machine/Operands.lean ====
section
/-! DEFINITION. The operand forms: immediates, effective addresses, register translation, base PC, jump and branch targets,
link values, and the registers an instruction reads. -/

namespace Sys2Proof.Machine

/-! ### Immediates (30_encoding.md R122, R138, R142) -/

/-- Sign extension to a word. -/
def sext {n : Nat} (v : BitVec n) : Word := v.signExtend 32

/-- Zero extension to a word. -/
def zext {n : Nat} (v : BitVec n) : Word := v.setWidth 32

/-- An unextended immediate scaled by 2 (R138). -/
def zext2 {n : Nat} (v : BitVec n) : Word := zext (v ++ 0#1)

/-- An unextended immediate scaled by 4 (R138). -/
def zext4 {n : Nat} (v : BitVec n) : Word := zext (v ++ 0#2)

/-- The shift amount of an unextended 16-bit shift: SA = 0 means 8 (47_shift_muldiv16.md R380). -/
def shiftAmount16 (sa : BitVec 3) : Nat := if sa = 0#3 then 8 else sa.toNat

/-! ### Registers of the 16-bit ISA (30_encoding.md R136) -/

/-- The general register a 3-bit field names. -/
def xlat (c : Reg3) : Reg := if c.toNat < 2 then 0b10#2 ++ c else 0b00#2 ++ c

/-- t8, the condition register of the 16-bit ISA (10_state.md R23). -/
abbrev t8 : Reg := 24#5
/-- sp, the stack pointer (10_state.md R23). -/
abbrev sp : Reg := 29#5
/-- ra, the link register (10_state.md R21, R23). -/
abbrev ra : Reg := 31#5

/-! ### Addresses -/

/-- The effective address of a 32-bit load or store (40_loadstore32.md R170). -/
def State.ea32 (s : State) (base : Reg) (offset : BitVec 16) : Word := s.reg base + sext offset

/-- The base PC, its low two bits masked (45_loadstore16.md R340): the jump's address in a delay slot, else that of the
instruction. -/
def State.maskedBasePc (s : State) : Word :=
  (match s.slot with
    | some k => k.branchPc
    | none => s.pc) &&& 0xFFFFFFFC

/-- The word-aligned address of the word that contains an address. -/
def alignedWord (va : Word) : Word := va &&& 0xFFFFFFFC

/-- The target of J, JAL and JALX (43_jump_branch32.md R256(a), 48_jump_branch16.md R414(a)), with the given ISA mode. -/
def State.regionTarget (s : State) (target : BitVec 26) (isa16 : Bool) : Word :=
  (s.pc + 4).extractLsb' 28 4 ++ target ++ 0#1 ++ BitVec.ofBool isa16

/-- The target of a 32-bit branch (43_jump_branch32.md R256(c)). -/
def State.branchTarget32 (s : State) (offset : BitVec 16) : Word := s.pc + 4 + sext (offset ++ 0#2)

/-- The target of a 16-bit branch of `len` bytes (48_jump_branch16.md R408). -/
def State.branchTarget16 {n : Nat} (s : State) (len : Word) (offset : BitVec n) : Word := s.pc + len + sext (offset ++ 0#1)

/-- The link value of the 32-bit ISA (43_jump_branch32.md R257). -/
def State.link32 (s : State) : Word := s.pc + 8

/-- The link value of a 16-bit jump of `len` bytes (48_jump_branch16.md R407). -/
def State.link16 (s : State) (len : Word) : Word := (s.instrAddr + len + 2) ||| 1

/-! ### The registers an instruction reads -/

/-- The general registers an instruction reads, for the one rule that asks (60_exceptions.md R466(b)). -/
def sourcesOf : Instr → List Reg
  | .lb base _ _ | .lbu base _ _ | .lh base _ _ | .lhu base _ _ => [base]
  | .lwl base rt _ | .lwr base rt _ => [base, rt]
  | .lw base _ _ => [base]
  | .sb base rt _ | .sh base rt _ | .swl base rt _ | .swr base rt _ | .sw base rt _ => [base, rt]
  | .sync => []
  | .add rs rt _ | .addu rs rt _ | .sub rs rt _ | .subu rs rt _ | .and rs rt _ | .or rs rt _ | .xor rs rt _
  | .nor rs rt _ | .slt rs rt _ | .sltu rs rt _ => [rs, rt]
  | .addi rs _ _ | .addiu rs _ _ | .slti rs _ _ | .sltiu rs _ _ | .andi rs _ _ | .ori rs _ _ | .xori rs _ _ => [rs]
  | .lui _ _ => []
  | .sll rt _ _ | .srl rt _ _ | .sra rt _ _ => [rt]
  | .sllv rs rt _ | .srlv rs rt _ | .srav rs rt _ | .mult rs rt _ | .multu rs rt _ | .div rs rt | .divu rs rt
  | .madd rs rt _ | .maddu rs rt _ => [rs, rt]
  | .mfhi _ | .mflo _ => []
  | .mthi rs | .mtlo rs => [rs]
  | .j _ | .jal _ | .jalx _ => []
  | .jr rs | .jalr rs _ => [rs]
  | .beq rs rt _ | .bne rs rt _ => [rs, rt]
  | .blez rs _ | .bgtz rs _ | .bltz rs _ | .bgez rs _ | .bltzal rs _ | .bgezal rs _ | .bltzl rs _ | .bgezl rs _
  | .bltzall rs _ | .bgezall rs _ => [rs]
  | .beql rs rt _ | .bnel rs rt _ => [rs, rt]
  | .blezl rs _ | .bgtzl rs _ => [rs]
  | .mfc0 _ _ => []
  | .mtc0 rt _ => [rt]
  | .cfc0 _ _ => []
  | .ctc0 rt _ => [rt]
  | .mfc1 _ _ => []
  | .mtc1 rt _ => [rt]
  | .cfc1 _ _ => []
  | .ctc1 rt _ => [rt]
  | .cop1 _ | .mfc2 _ _ => []
  | .mtc2 rt _ => [rt]
  | .cfc2 _ _ => []
  | .ctc2 rt _ => [rt]
  | .cop2 _ | .mfc3 _ _ => []
  | .mtc3 rt _ => [rt]
  | .cfc3 _ _ => []
  | .ctc3 rt _ => [rt]
  | .cop3 _ | .bc0f _ | .bc0t _ | .bc0fl _ | .bc0tl _ | .bc1f _ | .bc1t _ | .bc1fl _ | .bc1tl _ | .bc2f _ | .bc2t _
  | .bc2fl _ | .bc2tl _ | .bc3f _ | .bc3t _ | .bc3fl _ | .bc3tl _ | .rfe | .deret | .tlbr | .tlbwi | .tlbwr | .tlbp
  | .lwcz _ _ _ _ | .swcz _ _ _ _ | .syscall _ | .brk _ | .sdbbp _ => []
  | .cache base _ _ => [base]
  | .lb16 base _ _ | .lbu16 base _ _ | .lh16 base _ _ | .lhu16 base _ _ | .lw16 base _ _ => [xlat base]
  | .lwpc _ _ => []
  | .lwsp _ _ => [sp]
  | .sb16 base ry _ | .sh16 base ry _ | .sw16 base ry _ => [xlat base, xlat ry]
  | .swsp rx _ => [sp, xlat rx]
  | .swrasp _ => [sp, ra]
  | .addiu3 rx _ _ => [xlat rx]
  | .addiupc _ _ => []
  | .addiu8 rx _ => [xlat rx]
  | .addiusp _ _ | .adjsp _ => [sp]
  | .addu16 rx ry _ | .subu16 rx ry _ => [xlat rx, xlat ry]
  | .neg16 _ ry => [xlat ry]
  | .slt16 rx ry | .sltu16 rx ry => [xlat rx, xlat ry]
  | .slti16 rx _ | .sltiu16 rx _ => [xlat rx]
  | .movr32 _ r32 => [r32]
  | .mov32r _ rz => [xlat rz]
  | .cmp16 rx ry => [xlat rx, xlat ry]
  | .cmpi16 rx _ => [xlat rx]
  | .and16 rx ry | .or16 rx ry | .xor16 rx ry => [xlat rx, xlat ry]
  | .not16 _ ry => [xlat ry]
  | .li16 _ _ => []
  | .sll16 _ ry _ | .srl16 _ ry _ | .sra16 _ ry _ => [xlat ry]
  | .sllv16 rx ry | .srlv16 rx ry | .srav16 rx ry | .mult16 rx ry | .multu16 rx ry | .div16 rx ry | .divu16 rx ry
    => [xlat rx, xlat ry]
  | .mfhi16 _ | .mflo16 _ | .jal16 _ | .jalx16 _ => []
  | .jr16 rx => [xlat rx]
  | .jrra => [ra]
  | .jalr16 rx | .beqz rx _ | .bnez rx _ => [xlat rx]
  | .bteqz _ | .btnez _ => [t8]
  | .b _ | .brk16 _ | .sdbbp16 _ | .extend _ _ => []
  | .lbE base _ _ | .lbuE base _ _ | .lhE base _ _ | .lhuE base _ _ | .lwE base _ _ => [xlat base]
  | .lwpcE _ _ => []
  | .lwspE _ _ => [sp]
  | .sbE base ry _ | .shE base ry _ | .swE base ry _ => [xlat base, xlat ry]
  | .swspE rx _ => [sp, xlat rx]
  | .swraspE _ => [sp, ra]
  | .addiu3E rx _ _ => [xlat rx]
  | .addiupcE _ _ => []
  | .addiu8E rx _ => [xlat rx]
  | .addiuspE _ _ | .adjspE _ => [sp]
  | .sltiE rx _ | .sltiuE rx _ | .cmpiE rx _ => [xlat rx]
  | .liE _ _ => []
  | .sllE _ ry _ | .srlE _ ry _ | .sraE _ ry _ => [xlat ry]
  | .beqzE rx _ | .bnezE rx _ => [xlat rx]
  | .bteqzE _ | .btnezE _ => [t8]
  | .bE _ => []

end Sys2Proof.Machine
end

