-- ==== Sys2Proof/Machine/Flags.lean ====
section
/-! DEFINITION. The TX19 has no flags (10_state.md R30): what other machines keep in them is here the overflow condition of
ADD, ADDI and SUB, the 0 or 1 of the set instructions, the branch conditions, and the double-word results of multiply and
divide. -/

namespace Sys2Proof.Machine

open Sys2Proof.Config

/-- Signed overflow of a 32-bit sum (41_alu32.md R191): equal operand signs, another sign of the sum. -/
def addOverflows (a b : Word) : Bool := bit a 31 == bit b 31 && bit (a + b) 31 != bit a 31

/-- Signed overflow of a 32-bit difference (R193). -/
def subOverflows (a b : Word) : Bool := bit a 31 != bit b 31 && bit (a - b) 31 != bit a 31

/-- 1 or 0, as the set instructions write it (R199). -/
def flag (c : Bool) : Word := if c then 1 else 0

/-- Signed less-than (R199). -/
def lessSigned (a b : Word) : Bool := decide (a.toInt < b.toInt)

/-- Unsigned less-than (R200). -/
def lessUnsigned (a b : Word) : Bool := decide (a.toNat < b.toNat)

/-- The signed 64-bit product (42_shift_muldiv32.md R228). -/
def productSigned (a b : Word) : BitVec 64 := BitVec.ofInt 64 (a.toInt * b.toInt)

/-- The unsigned 64-bit product (R229). -/
def productUnsigned (a b : Word) : BitVec 64 := BitVec.ofNat 64 (a.toNat * b.toNat)

/-- The high word of a double word. -/
def hiWord (p : BitVec 64) : Word := p.extractLsb' 32 32

/-- The low word of a double word. -/
def loWord (p : BitVec 64) : Word := p.extractLsb' 0 32

/-- HI and LO with the two words of a 64-bit result (R228, R232). -/
def State.setHiLo (p : BitVec 64) (s : State) : State := { s with hi := hiWord p, lo := loWord p }

/-- HI and LO as any values (R230, U7, U8). -/
def State.openHiLo (s : State) : State := { s with hi := freeWord s.tick .divHi, lo := freeWord s.tick .divLo }

/-- The effect of DIV on HI and LO (R230): quotient truncated toward zero, remainder with the dividend's sign (decision D8);
any values for a zero divisor (D6) and for -2^31 / -1 (D7). -/
def State.divSigned (a b : Word) (s : State) : State :=
  if b = 0 ∨ (a = 0x80000000 ∧ b = 0xFFFFFFFF) then s.openHiLo
  else { s with hi := BitVec.ofInt 32 (a.toInt.tmod b.toInt), lo := BitVec.ofInt 32 (a.toInt.tdiv b.toInt) }

/-- The effect of DIVU on HI and LO (R231). -/
def State.divUnsigned (a b : Word) (s : State) : State :=
  if b = 0 then s.openHiLo
  else { s with hi := BitVec.ofNat 32 (a.toNat % b.toNat), lo := BitVec.ofNat 32 (a.toNat / b.toNat) }

end Sys2Proof.Machine
end

