-- ==== Sys2Proof/Machine/Alu32.lean ====
section
/-! DEFINITION. The arithmetic, logical and compare instructions of the 32-bit ISA (41_alu32.md). -/

namespace Sys2Proof.Machine

/-- An instruction of `len` bytes that only writes a general register. -/
def writeReg (len : Word) (rd : Reg) (v : Word) (s : State) : Result := .next ((s.setReg rd v).finish len)

/-- The same with the overflow exception (60_exceptions.md R470): the register is not written. -/
def writeRegOrOverflow (overflow : Bool) (rd : Reg) (v : Word) (s : State) : Result :=
  if overflow then raise .ov s else writeReg 4 rd v s

/-- ADD (R191). -/
def execAdd (rs rt rd : Reg) (s : State) : Result :=
  writeRegOrOverflow (addOverflows (s.reg rs) (s.reg rt)) rd (s.reg rs + s.reg rt) s

/-- ADDU (R192). -/
def execAddu (rs rt rd : Reg) (s : State) : Result :=
  writeReg 4 rd (s.reg rs + s.reg rt) s

/-- SUB (R193). -/
def execSub (rs rt rd : Reg) (s : State) : Result :=
  writeRegOrOverflow (subOverflows (s.reg rs) (s.reg rt)) rd (s.reg rs - s.reg rt) s

/-- SUBU (R194). -/
def execSubu (rs rt rd : Reg) (s : State) : Result :=
  writeReg 4 rd (s.reg rs - s.reg rt) s

/-- AND (R195). -/
def execAnd (rs rt rd : Reg) (s : State) : Result :=
  writeReg 4 rd (s.reg rs &&& s.reg rt) s

/-- OR (R196). -/
def execOr (rs rt rd : Reg) (s : State) : Result :=
  writeReg 4 rd (s.reg rs ||| s.reg rt) s

/-- XOR (R197). -/
def execXor (rs rt rd : Reg) (s : State) : Result :=
  writeReg 4 rd (s.reg rs ^^^ s.reg rt) s

/-- NOR (R198). -/
def execNor (rs rt rd : Reg) (s : State) : Result :=
  writeReg 4 rd (~~~(s.reg rs ||| s.reg rt)) s

/-- SLT (R199). -/
def execSlt (rs rt rd : Reg) (s : State) : Result :=
  writeReg 4 rd (flag (lessSigned (s.reg rs) (s.reg rt))) s

/-- SLTU (R200). -/
def execSltu (rs rt rd : Reg) (s : State) : Result :=
  writeReg 4 rd (flag (lessUnsigned (s.reg rs) (s.reg rt))) s

/-- ADDI (R201). -/
def execAddi (rs rt : Reg) (imm : BitVec 16) (s : State) : Result :=
  writeRegOrOverflow (addOverflows (s.reg rs) (sext imm)) rt (s.reg rs + sext imm) s

/-- ADDIU (R202). -/
def execAddiu (rs rt : Reg) (imm : BitVec 16) (s : State) : Result :=
  writeReg 4 rt (s.reg rs + sext imm) s

/-- SLTI (R203). -/
def execSlti (rs rt : Reg) (imm : BitVec 16) (s : State) : Result :=
  writeReg 4 rt (flag (lessSigned (s.reg rs) (sext imm))) s

/-- SLTIU (R204). -/
def execSltiu (rs rt : Reg) (imm : BitVec 16) (s : State) : Result :=
  writeReg 4 rt (flag (lessUnsigned (s.reg rs) (sext imm))) s

/-- ANDI (R205). -/
def execAndi (rs rt : Reg) (imm : BitVec 16) (s : State) : Result :=
  writeReg 4 rt (s.reg rs &&& zext imm) s

/-- ORI (R206). -/
def execOri (rs rt : Reg) (imm : BitVec 16) (s : State) : Result :=
  writeReg 4 rt (s.reg rs ||| zext imm) s

/-- XORI (R207). -/
def execXori (rs rt : Reg) (imm : BitVec 16) (s : State) : Result :=
  writeReg 4 rt (s.reg rs ^^^ zext imm) s

/-- LUI (R208). -/
def execLui (rt : Reg) (imm : BitVec 16) (s : State) : Result :=
  writeReg 4 rt (imm ++ 0#16) s

end Sys2Proof.Machine
end

