-- ==== Sys2Proof/Machine/LoadStore16.lean ====
section
/-! DEFINITION. The loads and stores of the 16-bit ISA and their extended forms (45_loadstore16.md). -/

namespace Sys2Proof.Machine

/-- An extended instruction (49_special_extend16.md R425): it must not stand in a delay slot (U15). -/
def extended (s : State) (body : Result) : Result := outsideSlot .extendInDelaySlot s body

/-- LB from an address, for an instruction of `len` bytes (R335). -/
def loadByteSigned (len : Word) (dest : Reg) (ea : Word) (s : State) : Result :=
  load len dest ea 1 [ea] (sext (s.byteAt ea)) s

/-- LBU from an address (R336). -/
def loadByte (len : Word) (dest : Reg) (ea : Word) (s : State) : Result :=
  load len dest ea 1 [ea] (zext (s.byteAt ea)) s

/-- LH from an address (R337). -/
def loadHalfSigned (len : Word) (dest : Reg) (ea : Word) (s : State) : Result :=
  load len dest ea 2 (bytesFrom ea 2) (sext (s.halfAt ea)) s

/-- LHU from an address (R338). -/
def loadHalf (len : Word) (dest : Reg) (ea : Word) (s : State) : Result :=
  load len dest ea 2 (bytesFrom ea 2) (zext (s.halfAt ea)) s

/-- LW from an address (R339). -/
def loadWord (len : Word) (dest : Reg) (ea : Word) (s : State) : Result :=
  load len dest ea 4 (bytesFrom ea 4) (s.wordAt ea) s

/-- SB to an address (R343). -/
def storeByte (len : Word) (ea v : Word) (s : State) : Result :=
  store len ea 1 (cellsFrom ea [v.extractLsb' 0 8]) s

/-- SH to an address (R344). -/
def storeHalf (len : Word) (ea v : Word) (s : State) : Result :=
  store len ea 2 (cellsFrom ea (halfBytes s.product.bigEndian (v.extractLsb' 0 16))) s

/-- SW to an address (R345). -/
def storeWord (len : Word) (ea v : Word) (s : State) : Result :=
  store len ea 4 (cellsFrom ea (wordBytes s.product.bigEndian v)) s

/-- LB (R335). -/
def execLb16 (base ry : Reg3) (offset : BitVec 5) (s : State) : Result :=
  loadByteSigned 2 (xlat ry) (s.reg (xlat base) + zext offset) s

/-- LB, extended (R335). -/
def execLbE (base ry : Reg3) (imm : BitVec 16) (s : State) : Result :=
  extended s (loadByteSigned 4 (xlat ry) (s.reg (xlat base) + sext imm) s)

/-- LBU (R336). -/
def execLbu16 (base ry : Reg3) (offset : BitVec 5) (s : State) : Result :=
  loadByte 2 (xlat ry) (s.reg (xlat base) + zext offset) s

/-- LBU, extended (R336). -/
def execLbuE (base ry : Reg3) (imm : BitVec 16) (s : State) : Result :=
  extended s (loadByte 4 (xlat ry) (s.reg (xlat base) + sext imm) s)

/-- LH (R337). -/
def execLh16 (base ry : Reg3) (offset : BitVec 5) (s : State) : Result :=
  loadHalfSigned 2 (xlat ry) (s.reg (xlat base) + zext2 offset) s

/-- LH, extended (R337). -/
def execLhE (base ry : Reg3) (imm : BitVec 16) (s : State) : Result :=
  extended s (loadHalfSigned 4 (xlat ry) (s.reg (xlat base) + sext imm) s)

/-- LHU (R338). -/
def execLhu16 (base ry : Reg3) (offset : BitVec 5) (s : State) : Result :=
  loadHalf 2 (xlat ry) (s.reg (xlat base) + zext2 offset) s

/-- LHU, extended (R338). -/
def execLhuE (base ry : Reg3) (imm : BitVec 16) (s : State) : Result :=
  extended s (loadHalf 4 (xlat ry) (s.reg (xlat base) + sext imm) s)

/-- LW (R339). -/
def execLw16 (base ry : Reg3) (offset : BitVec 5) (s : State) : Result :=
  loadWord 2 (xlat ry) (s.reg (xlat base) + zext4 offset) s

/-- LW, extended (R339). -/
def execLwE (base ry : Reg3) (imm : BitVec 16) (s : State) : Result :=
  extended s (loadWord 4 (xlat ry) (s.reg (xlat base) + sext imm) s)

/-- SB (R343). -/
def execSb16 (base ry : Reg3) (offset : BitVec 5) (s : State) : Result :=
  storeByte 2 (s.reg (xlat base) + zext offset) (s.reg (xlat ry)) s

/-- SB, extended (R343). -/
def execSbE (base ry : Reg3) (imm : BitVec 16) (s : State) : Result :=
  extended s (storeByte 4 (s.reg (xlat base) + sext imm) (s.reg (xlat ry)) s)

/-- SH (R344). -/
def execSh16 (base ry : Reg3) (offset : BitVec 5) (s : State) : Result :=
  storeHalf 2 (s.reg (xlat base) + zext2 offset) (s.reg (xlat ry)) s

/-- SH, extended (R344). -/
def execShE (base ry : Reg3) (imm : BitVec 16) (s : State) : Result :=
  extended s (storeHalf 4 (s.reg (xlat base) + sext imm) (s.reg (xlat ry)) s)

/-- SW (R345). -/
def execSw16 (base ry : Reg3) (offset : BitVec 5) (s : State) : Result :=
  storeWord 2 (s.reg (xlat base) + zext4 offset) (s.reg (xlat ry)) s

/-- SW, extended (R345). -/
def execSwE (base ry : Reg3) (imm : BitVec 16) (s : State) : Result :=
  extended s (storeWord 4 (s.reg (xlat base) + sext imm) (s.reg (xlat ry)) s)

/-- LW rx, offset(pc) (R341). -/
def execLwpc (rx : Reg3) (imm : BitVec 8) (s : State) : Result :=
  loadWord 2 (xlat rx) (s.maskedBasePc + zext4 imm) s

/-- LW rx, offset(pc), extended (R341). -/
def execLwpcE (rx : Reg3) (imm : BitVec 16) (s : State) : Result :=
  extended s (loadWord 4 (xlat rx) (s.maskedBasePc + sext imm) s)

/-- LW rx, offset(sp) (R342). -/
def execLwsp (rx : Reg3) (imm : BitVec 8) (s : State) : Result :=
  loadWord 2 (xlat rx) (s.reg sp + zext4 imm) s

/-- LW rx, offset(sp), extended (R342). -/
def execLwspE (rx : Reg3) (imm : BitVec 16) (s : State) : Result :=
  extended s (loadWord 4 (xlat rx) (s.reg sp + sext imm) s)

/-- SW rx, offset(sp) (R346). -/
def execSwsp (rx : Reg3) (imm : BitVec 8) (s : State) : Result :=
  storeWord 2 (s.reg sp + zext4 imm) (s.reg (xlat rx)) s

/-- SW rx, offset(sp), extended (R346). -/
def execSwspE (rx : Reg3) (imm : BitVec 16) (s : State) : Result :=
  extended s (storeWord 4 (s.reg sp + sext imm) (s.reg (xlat rx)) s)

/-- SW ra, offset(sp) (R347). -/
def execSwrasp (imm : BitVec 8) (s : State) : Result :=
  storeWord 2 (s.reg sp + zext4 imm) (s.reg ra) s

/-- SW ra, offset(sp), extended (R347). -/
def execSwraspE (imm : BitVec 16) (s : State) : Result :=
  extended s (storeWord 4 (s.reg sp + sext imm) (s.reg ra) s)

end Sys2Proof.Machine
end

