-- ==== Sys2Proof/Machine/Alu16.lean ====
section
/-! DEFINITION. The arithmetic, compare, logical and move instructions of the 16-bit ISA and their extended forms
(46_alu16.md). -/

namespace Sys2Proof.Machine

/-- ADDIU ry, rx, immediate (R353). -/
def execAddiu3 (rx ry : Reg3) (imm : BitVec 4) (s : State) : Result :=
  writeReg 2 (xlat ry) (s.reg (xlat rx) + sext imm) s

/-- ADDIU ry, rx, immediate, extended (R353). -/
def execAddiu3E (rx ry : Reg3) (imm : BitVec 15) (s : State) : Result :=
  extended s (writeReg 4 (xlat ry) (s.reg (xlat rx) + sext imm) s)

/-- ADDIU rx, pc, immediate (R354). -/
def execAddiupc (rx : Reg3) (imm : BitVec 8) (s : State) : Result :=
  writeReg 2 (xlat rx) (s.maskedBasePc + zext4 imm) s

/-- ADDIU rx, pc, immediate, extended (R354). -/
def execAddiupcE (rx : Reg3) (imm : BitVec 16) (s : State) : Result :=
  extended s (writeReg 4 (xlat rx) (s.maskedBasePc + sext imm) s)

/-- ADDIU rx, immediate (R355). -/
def execAddiu8 (rx : Reg3) (imm : BitVec 8) (s : State) : Result :=
  writeReg 2 (xlat rx) (s.reg (xlat rx) + sext imm) s

/-- ADDIU rx, immediate, extended (R355). -/
def execAddiu8E (rx : Reg3) (imm : BitVec 16) (s : State) : Result :=
  extended s (writeReg 4 (xlat rx) (s.reg (xlat rx) + sext imm) s)

/-- ADDIU rx, sp, immediate (R356). -/
def execAddiusp (rx : Reg3) (imm : BitVec 8) (s : State) : Result :=
  writeReg 2 (xlat rx) (s.reg sp + zext4 imm) s

/-- ADDIU rx, sp, immediate, extended (R356). -/
def execAddiuspE (rx : Reg3) (imm : BitVec 16) (s : State) : Result :=
  extended s (writeReg 4 (xlat rx) (s.reg sp + sext imm) s)

/-- ADDIU sp, immediate (R357). -/
def execAdjsp (imm : BitVec 8) (s : State) : Result :=
  writeReg 2 sp (s.reg sp + sext (imm ++ 0#3)) s

/-- ADDIU sp, immediate, extended (R357). -/
def execAdjspE (imm : BitVec 16) (s : State) : Result :=
  extended s (writeReg 4 sp (s.reg sp + sext imm) s)

/-- ADDU (R358). -/
def execAddu16 (rx ry rz : Reg3) (s : State) : Result :=
  writeReg 2 (xlat rz) (s.reg (xlat rx) + s.reg (xlat ry)) s

/-- SUBU (R359). -/
def execSubu16 (rx ry rz : Reg3) (s : State) : Result :=
  writeReg 2 (xlat rz) (s.reg (xlat rx) - s.reg (xlat ry)) s

/-- NEG (R360). -/
def execNeg16 (rx ry : Reg3) (s : State) : Result :=
  writeReg 2 (xlat rx) (0 - s.reg (xlat ry)) s

/-- SLT (R361). -/
def execSlt16 (rx ry : Reg3) (s : State) : Result :=
  writeReg 2 t8 (flag (lessSigned (s.reg (xlat rx)) (s.reg (xlat ry)))) s

/-- SLTU (R362). -/
def execSltu16 (rx ry : Reg3) (s : State) : Result :=
  writeReg 2 t8 (flag (lessUnsigned (s.reg (xlat rx)) (s.reg (xlat ry)))) s

/-- SLTI (R363). -/
def execSlti16 (rx : Reg3) (imm : BitVec 8) (s : State) : Result :=
  writeReg 2 t8 (flag (lessSigned (s.reg (xlat rx)) (zext imm))) s

/-- SLTI, extended (R363). -/
def execSltiE (rx : Reg3) (imm : BitVec 16) (s : State) : Result :=
  extended s (writeReg 4 t8 (flag (lessSigned (s.reg (xlat rx)) (sext imm))) s)

/-- SLTIU (R364). -/
def execSltiu16 (rx : Reg3) (imm : BitVec 8) (s : State) : Result :=
  writeReg 2 t8 (flag (lessUnsigned (s.reg (xlat rx)) (zext imm))) s

/-- SLTIU, extended (R364). -/
def execSltiuE (rx : Reg3) (imm : BitVec 16) (s : State) : Result :=
  extended s (writeReg 4 t8 (flag (lessUnsigned (s.reg (xlat rx)) (sext imm))) s)

/-- MOVE ry, r32 (R365). -/
def execMovr32 (ry : Reg3) (r32 : Reg) (s : State) : Result :=
  writeReg 2 (xlat ry) (s.reg r32) s

/-- MOVE r32, rz (R366). -/
def execMov32r (r32 : Reg) (rz : Reg3) (s : State) : Result :=
  writeReg 2 r32 (s.reg (xlat rz)) s

/-- CMP (R367). -/
def execCmp16 (rx ry : Reg3) (s : State) : Result :=
  writeReg 2 t8 (s.reg (xlat rx) ^^^ s.reg (xlat ry)) s

/-- CMPI (R368). -/
def execCmpi16 (rx : Reg3) (imm : BitVec 8) (s : State) : Result :=
  writeReg 2 t8 (s.reg (xlat rx) ^^^ zext imm) s

/-- CMPI, extended (R368). -/
def execCmpiE (rx : Reg3) (imm : BitVec 16) (s : State) : Result :=
  extended s (writeReg 4 t8 (s.reg (xlat rx) ^^^ zext imm) s)

/-- AND (R369). -/
def execAnd16 (rx ry : Reg3) (s : State) : Result :=
  writeReg 2 (xlat rx) (s.reg (xlat rx) &&& s.reg (xlat ry)) s

/-- OR (R370). -/
def execOr16 (rx ry : Reg3) (s : State) : Result :=
  writeReg 2 (xlat rx) (s.reg (xlat rx) ||| s.reg (xlat ry)) s

/-- XOR (R371). -/
def execXor16 (rx ry : Reg3) (s : State) : Result :=
  writeReg 2 (xlat rx) (s.reg (xlat rx) ^^^ s.reg (xlat ry)) s

/-- NOT (R372). -/
def execNot16 (rx ry : Reg3) (s : State) : Result :=
  writeReg 2 (xlat rx) (~~~(s.reg (xlat ry))) s

/-- LI (R373). -/
def execLi16 (rx : Reg3) (imm : BitVec 8) (s : State) : Result :=
  writeReg 2 (xlat rx) (zext imm) s

/-- LI, extended (R373). -/
def execLiE (rx : Reg3) (imm : BitVec 16) (s : State) : Result :=
  extended s (writeReg 4 (xlat rx) (zext imm) s)

end Sys2Proof.Machine
end

