-- ==== Sys2Proof/Machine/Branch32.lean ====
section
/-! DEFINITION. The jumps, branches and branch-likelies of the 32-bit ISA (43_jump_branch32.md). -/

namespace Sys2Proof.Machine

/-- A jump: the delay slot is next, then `target` (R250, R251); not in a delay slot itself (R252). -/
def jump (len target : Word) (s : State) : Result :=
  outsideSlot .transferInDelaySlot s (.next (s.startTransfer len target false false))

/-- A jump that writes a link register (R257). -/
def jumpLink (len target : Word) (rd : Reg) (link : Word) (s : State) : Result :=
  outsideSlot .transferInDelaySlot s (.next ((s.setReg rd link).startTransfer len target false false))

/-- Where a 32-bit branch goes after its slot (R251). -/
def State.branchNext (s : State) (taken : Bool) (offset : BitVec 16) : Word :=
  if taken then s.branchTarget32 offset else s.pc + 8

/-- A general branch: the slot is always executed (R250(a)). -/
def branch (taken : Bool) (offset : BitVec 16) (s : State) : Result :=
  outsideSlot .transferInDelaySlot s (.next (s.startTransfer 4 (s.branchNext taken offset) false false))

/-- A branch-likely: the slot is nullified when the branch is not taken (R250(b), R271). -/
def branchLikely (taken : Bool) (offset : BitVec 16) (s : State) : Result :=
  outsideSlot .transferInDelaySlot s (.next (s.startTransfer 4 (s.branchNext taken offset) (!taken) false))

/-- A linking branch: r31 is written whether or not it is taken; rs must not be r31 (R268, U4). -/
def branchLink (rs : Reg) (likely taken : Bool) (offset : BitVec 16) (s : State) : Result :=
  if rs = ra then .fault .linkOverwritesSource
  else outsideSlot .transferInDelaySlot s
    (.next ((s.setReg ra s.link32).startTransfer 4 (s.branchNext taken offset) (likely && !taken) false))

/-- rs <= 0 as a signed value (R261). -/
def lez (v : Word) : Bool := bit v 31 || v == 0

/-- rs < 0 as a signed value (R261). -/
def ltz (v : Word) : Bool := bit v 31

/-- J (R259). -/
def execJ (target : BitVec 26) (s : State) : Result :=
  jump 4 (s.regionTarget target s.isa16) s

/-- JAL (R260). -/
def execJal (target : BitVec 26) (s : State) : Result :=
  jumpLink 4 (s.regionTarget target s.isa16) ra s.link32 s

/-- JALX (R253). -/
def execJalx (target : BitVec 26) (s : State) : Result :=
  jumpLink 4 (s.regionTarget target (!s.isa16)) ra s.link32 s

/-- JR (R254). -/
def execJr (rs : Reg) (s : State) : Result :=
  jump 4 (s.reg rs) s

/-- JALR (R255; rd must differ from rs, U3). -/
def execJalr (rs rd : Reg) (s : State) : Result :=
  if rd = rs then .fault .linkOverwritesSource else jumpLink 4 (s.reg rs) rd s.link32 s

/-- BEQ (R262). -/
def execBeq (rs rt : Reg) (offset : BitVec 16) (s : State) : Result :=
  branch (s.reg rs == s.reg rt) offset s

/-- BNE (R263). -/
def execBne (rs rt : Reg) (offset : BitVec 16) (s : State) : Result :=
  branch (s.reg rs != s.reg rt) offset s

/-- BLEZ (R264). -/
def execBlez (rs : Reg) (offset : BitVec 16) (s : State) : Result :=
  branch (lez (s.reg rs)) offset s

/-- BGTZ (R265). -/
def execBgtz (rs : Reg) (offset : BitVec 16) (s : State) : Result :=
  branch (!lez (s.reg rs)) offset s

/-- BLTZ (R266). -/
def execBltz (rs : Reg) (offset : BitVec 16) (s : State) : Result :=
  branch (ltz (s.reg rs)) offset s

/-- BGEZ (R267). -/
def execBgez (rs : Reg) (offset : BitVec 16) (s : State) : Result :=
  branch (!ltz (s.reg rs)) offset s

/-- BLTZAL (R269). -/
def execBltzal (rs : Reg) (offset : BitVec 16) (s : State) : Result :=
  branchLink rs false (ltz (s.reg rs)) offset s

/-- BGEZAL (R270). -/
def execBgezal (rs : Reg) (offset : BitVec 16) (s : State) : Result :=
  branchLink rs false (!ltz (s.reg rs)) offset s

/-- BEQL (R272). -/
def execBeql (rs rt : Reg) (offset : BitVec 16) (s : State) : Result :=
  branchLikely (s.reg rs == s.reg rt) offset s

/-- BNEL (R273). -/
def execBnel (rs rt : Reg) (offset : BitVec 16) (s : State) : Result :=
  branchLikely (s.reg rs != s.reg rt) offset s

/-- BLEZL (R274). -/
def execBlezl (rs : Reg) (offset : BitVec 16) (s : State) : Result :=
  branchLikely (lez (s.reg rs)) offset s

/-- BGTZL (R278). -/
def execBgtzl (rs : Reg) (offset : BitVec 16) (s : State) : Result :=
  branchLikely (!lez (s.reg rs)) offset s

/-- BLTZL (R279). -/
def execBltzl (rs : Reg) (offset : BitVec 16) (s : State) : Result :=
  branchLikely (ltz (s.reg rs)) offset s

/-- BGEZL (R280). -/
def execBgezl (rs : Reg) (offset : BitVec 16) (s : State) : Result :=
  branchLikely (!ltz (s.reg rs)) offset s

/-- BLTZALL (R281). -/
def execBltzall (rs : Reg) (offset : BitVec 16) (s : State) : Result :=
  branchLink rs true (ltz (s.reg rs)) offset s

/-- BGEZALL (R282). -/
def execBgezall (rs : Reg) (offset : BitVec 16) (s : State) : Result :=
  branchLink rs true (!ltz (s.reg rs)) offset s

end Sys2Proof.Machine
end

