-- ==== Sys2Proof/Machine/Branch16.lean ====
section
/-! DEFINITION. The jumps and branches of the 16-bit ISA and their extended forms (48_jump_branch16.md). -/

namespace Sys2Proof.Machine

/-- A 16-bit branch of `len` bytes: no delay slot (R400(b), R408); not in a delay slot itself (R406, U2). -/
def branch16 {n : Nat} (len : Word) (taken : Bool) (offset : BitVec n) (s : State) : Result :=
  outsideSlot .transferInDelaySlot s
    (.next (s.branchTo (if taken then s.branchTarget16 len offset else s.pc + len)))

/-- JAL (R401; as two halfwords it must not stand in a delay slot, U15). -/
def execJal16 (target : BitVec 26) (s : State) : Result :=
  extended s (jumpLink 4 (s.regionTarget target s.isa16) ra (s.link16 4) s)

/-- JALX (R402). -/
def execJalx16 (target : BitVec 26) (s : State) : Result :=
  extended s (jumpLink 4 (s.regionTarget target (!s.isa16)) ra (s.link16 4) s)

/-- JR rx (R403). -/
def execJr16 (rx : Reg3) (s : State) : Result :=
  jump 2 (s.reg (xlat rx)) s

/-- JR ra (R404). -/
def execJrra (s : State) : Result :=
  jump 2 (s.reg ra) s

/-- JALR ra, rx (R405). -/
def execJalr16 (rx : Reg3) (s : State) : Result :=
  jumpLink 2 (s.reg (xlat rx)) ra (s.link16 2) s

/-- BEQZ (R409). -/
def execBeqz (rx : Reg3) (offset : BitVec 8) (s : State) : Result :=
  branch16 2 (s.reg (xlat rx) == 0) offset s

/-- BEQZ, extended (R409). -/
def execBeqzE (rx : Reg3) (offset : BitVec 16) (s : State) : Result :=
  extended s (branch16 4 (s.reg (xlat rx) == 0) offset s)

/-- BNEZ (R410). -/
def execBnez (rx : Reg3) (offset : BitVec 8) (s : State) : Result :=
  branch16 2 (s.reg (xlat rx) != 0) offset s

/-- BNEZ, extended (R410). -/
def execBnezE (rx : Reg3) (offset : BitVec 16) (s : State) : Result :=
  extended s (branch16 4 (s.reg (xlat rx) != 0) offset s)

/-- BTEQZ (R411). -/
def execBteqz (offset : BitVec 8) (s : State) : Result :=
  branch16 2 (s.reg t8 == 0) offset s

/-- BTEQZ, extended (R411). -/
def execBteqzE (offset : BitVec 16) (s : State) : Result :=
  extended s (branch16 4 (s.reg t8 == 0) offset s)

/-- BTNEZ (R412). -/
def execBtnez (offset : BitVec 8) (s : State) : Result :=
  branch16 2 (s.reg t8 != 0) offset s

/-- BTNEZ, extended (R412). -/
def execBtnezE (offset : BitVec 16) (s : State) : Result :=
  extended s (branch16 4 (s.reg t8 != 0) offset s)

/-- B (R413). -/
def execB (offset : BitVec 11) (s : State) : Result :=
  branch16 2 true offset s

/-- B, extended (R413). -/
def execBE (offset : BitVec 16) (s : State) : Result :=
  extended s (branch16 4 true offset s)

end Sys2Proof.Machine
end

