-- ==== Sys2Proof/Machine/Coproc32.lean ====
section
/-! DEFINITION. The coprocessor, system control and special instructions of the 32-bit ISA
(44_coproc_special32.md). -/

namespace Sys2Proof.Machine

/-! ### Coprocessors 1 to 3 -/

/-- Coprocessor z of 1 to 3 (10_state.md R67). -/
def State.cop (s : State) (z : BitVec 2) : Coprocessor :=
  match z with
  | 1#2 => s.cop1
  | 2#2 => s.cop2
  | 3#2 => s.cop3
  | _ => .absent

/-- The state with coprocessor z of 1 to 3 replaced. -/
def State.setCop (z : BitVec 2) (c : Coprocessor) (s : State) : State :=
  { s with
    cop1 := if z = 1#2 then c else s.cop1
    cop2 := if z = 2#2 then c else s.cop2
    cop3 := if z = 3#2 then c else s.cop3 }

/-- An instruction of coprocessor z of 1 to 3: the usability check, then a refusal where the product has no such unit (R290,
R291, decision D11). -/
def ifCop (z : BitVec 2) (s : State) (body : Result) : Result :=
  ifUsable z s (if (s.cop z).present then body else .refused .coprocessorAbsent)

/-- MFCz (R292). -/
def mfcz (z : BitVec 2) (rt rd : Reg) (s : State) : Result :=
  ifCop z s (.next ((s.setReg rt ((s.cop z).data[rd.toNat]'rd.isLt)).finish 4))

/-- MTCz (R293). -/
def mtcz (z : BitVec 2) (rt rd : Reg) (s : State) : Result :=
  ifCop z s (.next ((s.setCop z { s.cop z with data := (s.cop z).data.set rd.toNat (s.reg rt) rd.isLt }).finish 4))

/-- CFCz (R294). -/
def cfcz (z : BitVec 2) (rt rd : Reg) (s : State) : Result :=
  ifCop z s (.next ((s.setReg rt ((s.cop z).ctrl[rd.toNat]'rd.isLt)).finish 4))

/-- CTCz (R295). -/
def ctcz (z : BitVec 2) (rt rd : Reg) (s : State) : Result :=
  ifCop z s (.next ((s.setCop z { s.cop z with ctrl := (s.cop z).ctrl.set rd.toNat (s.reg rt) rd.isLt }).finish 4))

/-- A coprocessor whose registers have any values: what an operation of it leaves, as the spec says only that it may change
them (R298). -/
def Coprocessor.opened (z : BitVec 2) (tick : Nat) (c : Coprocessor) : Coprocessor :=
  { c with
    data := Vector.ofFn fun r => Config.freeWord tick (.copData z.toNat r.val)
    ctrl := Vector.ofFn fun r => Config.freeWord tick (.copCtrl z.toNat r.val) }

/-- The condition lines with that of coprocessor z at any value. -/
def openCondition (z : BitVec 2) (tick : Nat) (lines : BitVec 4) : BitVec 4 :=
  (lines &&& ~~~(1#4 <<< z.toNat)) ||| (((Config.freeWord tick (.copCondition z.toNat)).extractLsb' 0 4) &&& (1#4 <<< z.toNat))

/-- COPz (R298): the unit's own registers and its condition line may change, nothing of the core does. -/
def copz (z : BitVec 2) (s : State) : Result :=
  ifCop z s (.next ({ s.setCop z ((s.cop z).opened z s.tick) with
    cpcond := openCondition z s.tick s.cpcond }.finish 4))

/-- The condition of a coprocessor branch: the line as it was while the instruction before executed (R299). -/
def State.copCondition (s : State) (z : BitVec 2) : Bool := s.cpcondPrev.extractLsb' z.toNat 1 == 1#1

/-- BCzF and BCzT for z of 1 to 3 (R300, R301). -/
def bcz (z : BitVec 2) (want : Bool) (offset : BitVec 16) (s : State) : Result :=
  ifCop z s (branch (s.copCondition z == want) offset s)

/-- BCzFL and BCzTL for z of 1 to 3 (R302, R303). -/
def bczLikely (z : BitVec 2) (want : Bool) (offset : BitVec 16) (s : State) : Result :=
  ifCop z s (branchLikely (s.copCondition z == want) offset s)

/-- MFC1 (R292). -/
def execMfc1 (rt rd : Reg) (s : State) : Result :=
  mfcz 1#2 rt rd s

/-- MTC1 (R293). -/
def execMtc1 (rt rd : Reg) (s : State) : Result :=
  mtcz 1#2 rt rd s

/-- CFC1 (R294). -/
def execCfc1 (rt rd : Reg) (s : State) : Result :=
  cfcz 1#2 rt rd s

/-- CTC1 (R295). -/
def execCtc1 (rt rd : Reg) (s : State) : Result :=
  ctcz 1#2 rt rd s

/-- COP1 (R298). -/
def execCop1 (_cofun : BitVec 25) (s : State) : Result :=
  copz 1#2 s

/-- BC1F (R300). -/
def execBc1f (offset : BitVec 16) (s : State) : Result :=
  bcz 1#2 false offset s

/-- BC1T (R301). -/
def execBc1t (offset : BitVec 16) (s : State) : Result :=
  bcz 1#2 true offset s

/-- BC1FL (R302). -/
def execBc1fl (offset : BitVec 16) (s : State) : Result :=
  bczLikely 1#2 false offset s

/-- BC1TL (R303). -/
def execBc1tl (offset : BitVec 16) (s : State) : Result :=
  bczLikely 1#2 true offset s

/-- MFC2 (R292). -/
def execMfc2 (rt rd : Reg) (s : State) : Result :=
  mfcz 2#2 rt rd s

/-- MTC2 (R293). -/
def execMtc2 (rt rd : Reg) (s : State) : Result :=
  mtcz 2#2 rt rd s

/-- CFC2 (R294). -/
def execCfc2 (rt rd : Reg) (s : State) : Result :=
  cfcz 2#2 rt rd s

/-- CTC2 (R295). -/
def execCtc2 (rt rd : Reg) (s : State) : Result :=
  ctcz 2#2 rt rd s

/-- COP2 (R298). -/
def execCop2 (_cofun : BitVec 25) (s : State) : Result :=
  copz 2#2 s

/-- BC2F (R300). -/
def execBc2f (offset : BitVec 16) (s : State) : Result :=
  bcz 2#2 false offset s

/-- BC2T (R301). -/
def execBc2t (offset : BitVec 16) (s : State) : Result :=
  bcz 2#2 true offset s

/-- BC2FL (R302). -/
def execBc2fl (offset : BitVec 16) (s : State) : Result :=
  bczLikely 2#2 false offset s

/-- BC2TL (R303). -/
def execBc2tl (offset : BitVec 16) (s : State) : Result :=
  bczLikely 2#2 true offset s

/-- MFC3 (R292). -/
def execMfc3 (rt rd : Reg) (s : State) : Result :=
  mfcz 3#2 rt rd s

/-- MTC3 (R293). -/
def execMtc3 (rt rd : Reg) (s : State) : Result :=
  mtcz 3#2 rt rd s

/-- CFC3 (R294). -/
def execCfc3 (rt rd : Reg) (s : State) : Result :=
  cfcz 3#2 rt rd s

/-- CTC3 (R295). -/
def execCtc3 (rt rd : Reg) (s : State) : Result :=
  ctcz 3#2 rt rd s

/-- COP3 (R298). -/
def execCop3 (_cofun : BitVec 25) (s : State) : Result :=
  copz 3#2 s

/-- BC3F (R300). -/
def execBc3f (offset : BitVec 16) (s : State) : Result :=
  bcz 3#2 false offset s

/-- BC3T (R301). -/
def execBc3t (offset : BitVec 16) (s : State) : Result :=
  bcz 3#2 true offset s

/-- BC3FL (R302). -/
def execBc3fl (offset : BitVec 16) (s : State) : Result :=
  bczLikely 3#2 false offset s

/-- BC3TL (R303). -/
def execBc3tl (offset : BitVec 16) (s : State) : Result :=
  bczLikely 3#2 true offset s

/-! ### Coprocessor 0 -/

/-- BC0F (R300, R290(b)). -/
def execBc0f (offset : BitVec 16) (s : State) : Result :=
  ifUsable 0#2 s (branch (s.copCondition 0#2 == false) offset s)

/-- BC0T (R301, R290(b)). -/
def execBc0t (offset : BitVec 16) (s : State) : Result :=
  ifUsable 0#2 s (branch (s.copCondition 0#2 == true) offset s)

/-- BC0FL (R302, R290(b)). -/
def execBc0fl (offset : BitVec 16) (s : State) : Result :=
  ifUsable 0#2 s (branchLikely (s.copCondition 0#2 == false) offset s)

/-- BC0TL (R303, R290(b)). -/
def execBc0tl (offset : BitVec 16) (s : State) : Result :=
  ifUsable 0#2 s (branchLikely (s.copCondition 0#2 == true) offset s)

/-- MFC0 (R296) of a listed register (10_state.md R33, decision D10): the next instruction may not read rt
(70_reset_and_hazards.md R536(a)). -/
def execMfc0 (rt rd : Reg) (s : State) : Result :=
  ifUsable 0#2 s (
    if listedCp0 rd then .next ((s.setReg rt (s.cp0Read rd)).finishAs (.mfc0 rt rd) 4)
    else .refused .unlistedCp0Register)

/-- What an MTC0 does that passed the usability check (R297): a stop for the writes the spec leaves undefined (U11, U12, U21,
U24), else the writable fields change at once (70_reset_and_hazards.md R536(e), decision D37). -/
def mtc0Effect (rd : Reg) (v : Word) (s : State) : Result :=
  let t := s.cp0Write rd v
  let modeChanged := bit s.status 1 != bit t.status 1
  if !listedCp0 rd then .refused .unlistedCp0Register
  else if rd == 12#5 && bit v 25 then .fault .reverseEndianWritten
  else if rd == 3#5 && bit t.config 8 && bit t.config 9 then .fault .haltAndDoze
  else if modeChanged && s.prev == .access then .fault .modeChangeBesideAccess
  else .next (t.finishAs (.mtc0 rd modeChanged) 4)

/-- MTC0 (R297). -/
def execMtc0 (rt rd : Reg) (s : State) : Result := ifUsable 0#2 s (mtc0Effect rd (s.reg rt) s)

/-- CFC0 (R305): CP0 has no control registers. -/
def execCfc0 (_rt _rd : Reg) (s : State) : Result := ifUsable 0#2 s (.refused .controlRegisterOfCp0)

/-- CTC0 (R305). -/
def execCtc0 (_rt _rd : Reg) (s : State) : Result := ifUsable 0#2 s (.refused .controlRegisterOfCp0)

/-- Was the instruction directly before an MFC0 from or an MTC0 to this CP0 register (70_reset_and_hazards.md R536)? An exception
entry in between ends the hazard, and IE does not count as Status (logs 20, 21). -/
def Prev.touched : Prev → Reg → Bool
  | .mfc0 _ rd, n => rd == n
  | .mtc0 rd _, n => rd == n
  | _, _ => false

/-- RFE (R306): the pop; directly after an MTC0 or MFC0 of Status, Status has any value (U16). -/
def execRfe (s : State) : Result :=
  ifUsable 0#2 s (.next ({ s with
    status := if s.prev.touched 12#5 then Config.freeWord s.tick .statusAfterRfe &&& statusMask
      else popStatus s.status }.finish 4))

/-- DERET (R307): one delay slot, then DEPC in its ISA mode, and debug mode ends. Too close behind an MTC0 to DEPC it goes
anywhere (70_reset_and_hazards.md R536(d)); directly after an MTC0 or MFC0 of Debug, Debug has any value (U18). -/
def execDeret (s : State) : Result :=
  ifUsable 0#2 s (outsideSlot .transferInDelaySlot s (
    if s.debugMode then
      .next ({ s with
        debug := if s.prev.touched 16#5 then Config.freeWord s.tick .debugAfterDeret &&& debugMask else s.debug }.startTransfer 4
          (if s.depcWait = 0 then s.depc else Config.freeWord s.tick .deretTarget) false true)
    else .fault .deretOutsideDebugMode))

/-- TLBR (R312): no operation. -/
def execTlbr (s : State) : Result := ifUsable 0#2 s (.next (s.finish 4))

/-- TLBWI (R312): no operation. -/
def execTlbwi (s : State) : Result := ifUsable 0#2 s (.next (s.finish 4))

/-- TLBWR (R312): no operation. -/
def execTlbwr (s : State) : Result := ifUsable 0#2 s (.next (s.finish 4))

/-- TLBP (R312): no operation. -/
def execTlbp (s : State) : Result := ifUsable 0#2 s (.next (s.finish 4))

/-- CACHE (R308): the usability check, and then a stop, since the source leaves it undefined on a core without a cache (U19,
decision D15; log 14). -/
def execCache (_base : Reg) (_op : BitVec 5) (_offset : BitVec 16) (s : State) : Result :=
  ifUsable 0#2 s (.refused .cacheAbsent)

/-- LWCz (R313): reserved. -/
def execLwcz (_z : BitVec 2) (_base _rt : Reg) (_offset : BitVec 16) (s : State) : Result := raise .ri s

/-- SWCz (R313): reserved. -/
def execSwcz (_z : BitVec 2) (_base _rt : Reg) (_offset : BitVec 16) (s : State) : Result := raise .ri s

/-! ### Special instructions -/

/-- The debug breakpoint, in either ISA (R311, 49_special_extend16.md R422): undefined in debug mode (U9). -/
def debugBreakpoint (s : State) : Result :=
  if s.debugMode then .fault .sdbbpInDebugMode else .next (s.takeDebug .breakpoint false false)

/-- SYSCALL (R309). -/
def execSyscall (_code : BitVec 20) (s : State) : Result := raise .sys s

/-- BREAK (R310). -/
def execBrk (_code : BitVec 20) (s : State) : Result := raise .bp s

/-- SDBBP (R311). -/
def execSdbbp (_code : BitVec 20) (s : State) : Result := debugBreakpoint s

end Sys2Proof.Machine
end

