-- ==== Sys2Proof/Machine/LoadStore32.lean ====
section
/-! DEFINITION. The loads, stores and SYNC of the 32-bit ISA (40_loadstore32.md). -/

namespace Sys2Proof.Machine

/-- LB (R173). -/
def execLb (base rt : Reg) (offset : BitVec 16) (s : State) : Result :=
  let ea := s.ea32 base offset
  load 4 rt ea 1 [ea] (sext (s.byteAt ea)) s

/-- LBU (R174). -/
def execLbu (base rt : Reg) (offset : BitVec 16) (s : State) : Result :=
  let ea := s.ea32 base offset
  load 4 rt ea 1 [ea] (zext (s.byteAt ea)) s

/-- LH (R175). -/
def execLh (base rt : Reg) (offset : BitVec 16) (s : State) : Result :=
  let ea := s.ea32 base offset
  load 4 rt ea 2 (bytesFrom ea 2) (sext (s.halfAt ea)) s

/-- LHU (R176). -/
def execLhu (base rt : Reg) (offset : BitVec 16) (s : State) : Result :=
  let ea := s.ea32 base offset
  load 4 rt ea 2 (bytesFrom ea 2) (zext (s.halfAt ea)) s

/-- What LWL leaves in its register (R177): the bytes from the addressed one to the end of the aligned word `w` on the side
of the more significant ones go left, the rest of the register stays. -/
def lwlMerge (big : Bool) (a : Nat) (w old : Word) : Word :=
  let n := if big then 8 * a else 8 * (3 - a)
  (w <<< n) ||| (old &&& ((1#32 <<< n) - 1))

/-- What LWR leaves in its register (R178): the other bytes of the unaligned word go right. -/
def lwrMerge (big : Bool) (a : Nat) (w old : Word) : Word :=
  let n := if big then 8 * (3 - a) else 8 * a
  (old &&& ~~~((BitVec.allOnes 32) >>> n)) ||| (w >>> n)

/-- The virtual addresses LWL and SWL reach (R177, R182). -/
def leftBytes (big : Bool) (ea : Word) : List Word :=
  let a := ea.toNat % 4
  if big then bytesFrom ea (4 - a) else bytesFrom (alignedWord ea) (a + 1)

/-- The virtual addresses LWR and SWR reach (R178, R183). -/
def rightBytes (big : Bool) (ea : Word) : List Word :=
  let a := ea.toNat % 4
  if big then bytesFrom (alignedWord ea) (a + 1) else bytesFrom ea (4 - a)

/-- LWL (R177). -/
def execLwl (base rt : Reg) (offset : BitVec 16) (s : State) : Result :=
  let ea := s.ea32 base offset
  let big := s.product.bigEndian
  load 4 rt ea 1 (leftBytes big ea) (lwlMerge big (ea.toNat % 4) (s.wordAt (alignedWord ea)) (s.reg rt)) s

/-- LWR (R178). -/
def execLwr (base rt : Reg) (offset : BitVec 16) (s : State) : Result :=
  let ea := s.ea32 base offset
  let big := s.product.bigEndian
  load 4 rt ea 1 (rightBytes big ea) (lwrMerge big (ea.toNat % 4) (s.wordAt (alignedWord ea)) (s.reg rt)) s

/-- LW (R179). -/
def execLw (base rt : Reg) (offset : BitVec 16) (s : State) : Result :=
  let ea := s.ea32 base offset
  load 4 rt ea 4 (bytesFrom ea 4) (s.wordAt ea) s

/-- SB (R180). -/
def execSb (base rt : Reg) (offset : BitVec 16) (s : State) : Result :=
  let ea := s.ea32 base offset
  store 4 ea 1 (cellsFrom ea [(s.reg rt).extractLsb' 0 8]) s

/-- SH (R181). -/
def execSh (base rt : Reg) (offset : BitVec 16) (s : State) : Result :=
  let ea := s.ea32 base offset
  store 4 ea 2 (cellsFrom ea (halfBytes s.product.bigEndian ((s.reg rt).extractLsb' 0 16))) s

/-- SWL (R182): the left bytes of the register, the most significant one at the addressed byte. -/
def execSwl (base rt : Reg) (offset : BitVec 16) (s : State) : Result :=
  let ea := s.ea32 base offset
  let a := ea.toNat % 4
  let bytes := wordBytes s.product.bigEndian (s.reg rt)
  if s.product.bigEndian then store 4 ea 1 (cellsFrom ea (bytes.take (4 - a))) s
  else store 4 ea 1 (cellsFrom (alignedWord ea) (bytes.drop (3 - a))) s

/-- SWR (R183): the right bytes of the register, the least significant one at the addressed byte. -/
def execSwr (base rt : Reg) (offset : BitVec 16) (s : State) : Result :=
  let ea := s.ea32 base offset
  let a := ea.toNat % 4
  let bytes := wordBytes s.product.bigEndian (s.reg rt)
  if s.product.bigEndian then store 4 ea 1 (cellsFrom (alignedWord ea) (bytes.drop (3 - a))) s
  else store 4 ea 1 (cellsFrom ea (bytes.take (4 - a))) s

/-- SW (R185). -/
def execSw (base rt : Reg) (offset : BitVec 16) (s : State) : Result :=
  let ea := s.ea32 base offset
  store 4 ea 4 (cellsFrom ea (wordBytes s.product.bigEndian (s.reg rt))) s

/-- SYNC (R184): accesses are in program order already, so nothing but the program counter changes. -/
def execSync (s : State) : Result := .next (s.finish 4)

end Sys2Proof.Machine
end

