-- ==== Sys2Proof/Machine/ShiftMulDiv32.lean ====
section
/-! DEFINITION. The shifts, multiplies and divides of the 32-bit ISA (42_shift_muldiv32.md). -/

namespace Sys2Proof.Machine

/-- SLL (R221). -/
def execSll (rt rd : Reg) (sa : BitVec 5) (s : State) : Result :=
  writeReg 4 rd (s.reg rt <<< sa.toNat) s

/-- SRL (R222). -/
def execSrl (rt rd : Reg) (sa : BitVec 5) (s : State) : Result :=
  writeReg 4 rd (s.reg rt >>> sa.toNat) s

/-- SRA (R223). -/
def execSra (rt rd : Reg) (sa : BitVec 5) (s : State) : Result :=
  writeReg 4 rd ((s.reg rt).sshiftRight sa.toNat) s

/-- The amount of a variable shift: the low five bits (R220). -/
def shiftAmount (v : Word) : Nat := (v.extractLsb' 0 5).toNat

/-- SLLV (R224). -/
def execSllv (rs rt rd : Reg) (s : State) : Result :=
  writeReg 4 rd (s.reg rt <<< shiftAmount (s.reg rs)) s

/-- SRLV (R225). -/
def execSrlv (rs rt rd : Reg) (s : State) : Result :=
  writeReg 4 rd (s.reg rt >>> shiftAmount (s.reg rs)) s

/-- SRAV (R226). -/
def execSrav (rs rt rd : Reg) (s : State) : Result :=
  writeReg 4 rd ((s.reg rt).sshiftRight (shiftAmount (s.reg rs))) s

/-- A multiply or multiply-accumulate whose 64-bit result is `p`: HI and LO take it, rd its low word (R228). -/
def writeProduct (rd : Reg) (p : BitVec 64) (s : State) : Result :=
  .next (((s.setHiLo p).setReg rd (loWord p)).finish 4)

/-- MULT (R228). -/
def execMult (rs rt rd : Reg) (s : State) : Result :=
  writeProduct rd (productSigned (s.reg rs) (s.reg rt)) s

/-- MULTU (R229). -/
def execMultu (rs rt rd : Reg) (s : State) : Result :=
  writeProduct rd (productUnsigned (s.reg rs) (s.reg rt)) s

/-- DIV (R230). -/
def execDiv (rs rt : Reg) (s : State) : Result :=
  .next ((s.divSigned (s.reg rs) (s.reg rt)).finish 4)

/-- DIVU (R231). -/
def execDivu (rs rt : Reg) (s : State) : Result :=
  .next ((s.divUnsigned (s.reg rs) (s.reg rt)).finish 4)

/-- MADD (R232). -/
def execMadd (rs rt rd : Reg) (s : State) : Result :=
  writeProduct rd ((s.hi ++ s.lo) + productSigned (s.reg rs) (s.reg rt)) s

/-- MADDU (R233). -/
def execMaddu (rs rt rd : Reg) (s : State) : Result :=
  writeProduct rd ((s.hi ++ s.lo) + productUnsigned (s.reg rs) (s.reg rt)) s

/-- MFHI (R234). -/
def execMfhi (rd : Reg) (s : State) : Result :=
  writeReg 4 rd s.hi s

/-- MFLO (R235). -/
def execMflo (rd : Reg) (s : State) : Result :=
  writeReg 4 rd s.lo s

/-- MTHI (R236). -/
def execMthi (rs : Reg) (s : State) : Result :=
  .next ({ s with hi := s.reg rs }.finish 4)

/-- MTLO (R237). -/
def execMtlo (rs : Reg) (s : State) : Result :=
  .next ({ s with lo := s.reg rs }.finish 4)

end Sys2Proof.Machine
end

