-- ==== Sys2Proof/Machine/ShiftMulDiv16.lean ====
section
/-! DEFINITION. The shifts, multiplies and divides of the 16-bit ISA and their extended forms (47_shift_muldiv16.md). -/

namespace Sys2Proof.Machine

/-- SLL (R381). -/
def execSll16 (rx ry sa : Reg3) (s : State) : Result :=
  writeReg 2 (xlat rx) (s.reg (xlat ry) <<< shiftAmount16 sa) s

/-- SLL, extended (R381). -/
def execSllE (rx ry : Reg3) (sa : BitVec 5) (s : State) : Result :=
  extended s (writeReg 4 (xlat rx) (s.reg (xlat ry) <<< sa.toNat) s)

/-- SRL (R382). -/
def execSrl16 (rx ry sa : Reg3) (s : State) : Result :=
  writeReg 2 (xlat rx) (s.reg (xlat ry) >>> shiftAmount16 sa) s

/-- SRL, extended (R382). -/
def execSrlE (rx ry : Reg3) (sa : BitVec 5) (s : State) : Result :=
  extended s (writeReg 4 (xlat rx) (s.reg (xlat ry) >>> sa.toNat) s)

/-- SRA (R383). -/
def execSra16 (rx ry sa : Reg3) (s : State) : Result :=
  writeReg 2 (xlat rx) ((s.reg (xlat ry)).sshiftRight (shiftAmount16 sa)) s

/-- SRA, extended (R383). -/
def execSraE (rx ry : Reg3) (sa : BitVec 5) (s : State) : Result :=
  extended s (writeReg 4 (xlat rx) ((s.reg (xlat ry)).sshiftRight sa.toNat) s)

/-- SLLV (R384). -/
def execSllv16 (rx ry : Reg3) (s : State) : Result :=
  writeReg 2 (xlat ry) (s.reg (xlat ry) <<< shiftAmount (s.reg (xlat rx))) s

/-- SRLV (R385). -/
def execSrlv16 (rx ry : Reg3) (s : State) : Result :=
  writeReg 2 (xlat ry) (s.reg (xlat ry) >>> shiftAmount (s.reg (xlat rx))) s

/-- SRAV (R386). -/
def execSrav16 (rx ry : Reg3) (s : State) : Result :=
  writeReg 2 (xlat ry) ((s.reg (xlat ry)).sshiftRight (shiftAmount (s.reg (xlat rx)))) s

/-- MULT (R388). -/
def execMult16 (rx ry : Reg3) (s : State) : Result :=
  .next ((s.setHiLo (productSigned (s.reg (xlat rx)) (s.reg (xlat ry)))).finish 2)

/-- MULTU (R389). -/
def execMultu16 (rx ry : Reg3) (s : State) : Result :=
  .next ((s.setHiLo (productUnsigned (s.reg (xlat rx)) (s.reg (xlat ry)))).finish 2)

/-- DIV (R390). -/
def execDiv16 (rx ry : Reg3) (s : State) : Result :=
  .next ((s.divSigned (s.reg (xlat rx)) (s.reg (xlat ry))).finish 2)

/-- DIVU (R391). -/
def execDivu16 (rx ry : Reg3) (s : State) : Result :=
  .next ((s.divUnsigned (s.reg (xlat rx)) (s.reg (xlat ry))).finish 2)

/-- MFHI (R392). -/
def execMfhi16 (rx : Reg3) (s : State) : Result :=
  writeReg 2 (xlat rx) (s.hi) s

/-- MFLO (R393). -/
def execMflo16 (rx : Reg3) (s : State) : Result :=
  writeReg 2 (xlat rx) (s.lo) s

end Sys2Proof.Machine
end

