-- ==== Sys2Proof/Machine/Special16.lean ====
section
/-! DEFINITION. The special instructions of the 16-bit ISA and EXTEND misused (49_special_extend16.md). -/

namespace Sys2Proof.Machine

/-- BREAK (R421). -/
def execBrk16 (_code : BitVec 6) (s : State) : Result :=
  raise .bp s

/-- SDBBP (R422). -/
def execSdbbp16 (_code : BitVec 6) (s : State) : Result :=
  debugBreakpoint s

/-- EXTEND before a halfword it cannot extend (R425(c), 30_encoding.md R150). -/
def execExtend (_imm : BitVec 11) (_low : Half) (s : State) : Result :=
  extended s (raise .ri s)

end Sys2Proof.Machine
end

