-- ==== Sys2Proof/Machine/Dispatch.lean ====
section
/-! DEFINITION. What each instruction does: one arm per constructor, each a call of its meaning. -/

namespace Sys2Proof.Machine

/-- The meaning of an instruction in a state whose program counter points at it. -/
def exec (i : Instr) (s : State) : Host.Outcome State Fault Refusal :=
  match i with
  -- 32-bit ISA: loads, stores, SYNC (40_loadstore32.md)
  | .lb base rt offset => Sys2Proof.Machine.execLb base rt offset s
  | .lbu base rt offset => Sys2Proof.Machine.execLbu base rt offset s
  | .lh base rt offset => Sys2Proof.Machine.execLh base rt offset s
  | .lhu base rt offset => Sys2Proof.Machine.execLhu base rt offset s
  | .lwl base rt offset => Sys2Proof.Machine.execLwl base rt offset s
  | .lwr base rt offset => Sys2Proof.Machine.execLwr base rt offset s
  | .lw base rt offset => Sys2Proof.Machine.execLw base rt offset s
  | .sb base rt offset => Sys2Proof.Machine.execSb base rt offset s
  | .sh base rt offset => Sys2Proof.Machine.execSh base rt offset s
  | .swl base rt offset => Sys2Proof.Machine.execSwl base rt offset s
  | .swr base rt offset => Sys2Proof.Machine.execSwr base rt offset s
  | .sw base rt offset => Sys2Proof.Machine.execSw base rt offset s
  | .sync => Sys2Proof.Machine.execSync s
  -- 32-bit ISA: arithmetic, logical, compare (41_alu32.md)
  | .add rs rt rd => Sys2Proof.Machine.execAdd rs rt rd s
  | .addu rs rt rd => Sys2Proof.Machine.execAddu rs rt rd s
  | .sub rs rt rd => Sys2Proof.Machine.execSub rs rt rd s
  | .subu rs rt rd => Sys2Proof.Machine.execSubu rs rt rd s
  | .and rs rt rd => Sys2Proof.Machine.execAnd rs rt rd s
  | .or rs rt rd => Sys2Proof.Machine.execOr rs rt rd s
  | .xor rs rt rd => Sys2Proof.Machine.execXor rs rt rd s
  | .nor rs rt rd => Sys2Proof.Machine.execNor rs rt rd s
  | .slt rs rt rd => Sys2Proof.Machine.execSlt rs rt rd s
  | .sltu rs rt rd => Sys2Proof.Machine.execSltu rs rt rd s
  | .addi rs rt imm => Sys2Proof.Machine.execAddi rs rt imm s
  | .addiu rs rt imm => Sys2Proof.Machine.execAddiu rs rt imm s
  | .slti rs rt imm => Sys2Proof.Machine.execSlti rs rt imm s
  | .sltiu rs rt imm => Sys2Proof.Machine.execSltiu rs rt imm s
  | .andi rs rt imm => Sys2Proof.Machine.execAndi rs rt imm s
  | .ori rs rt imm => Sys2Proof.Machine.execOri rs rt imm s
  | .xori rs rt imm => Sys2Proof.Machine.execXori rs rt imm s
  | .lui rt imm => Sys2Proof.Machine.execLui rt imm s
  -- 32-bit ISA: shifts, multiply, divide (42_shift_muldiv32.md)
  | .sll rt rd sa => Sys2Proof.Machine.execSll rt rd sa s
  | .srl rt rd sa => Sys2Proof.Machine.execSrl rt rd sa s
  | .sra rt rd sa => Sys2Proof.Machine.execSra rt rd sa s
  | .sllv rs rt rd => Sys2Proof.Machine.execSllv rs rt rd s
  | .srlv rs rt rd => Sys2Proof.Machine.execSrlv rs rt rd s
  | .srav rs rt rd => Sys2Proof.Machine.execSrav rs rt rd s
  | .mult rs rt rd => Sys2Proof.Machine.execMult rs rt rd s
  | .multu rs rt rd => Sys2Proof.Machine.execMultu rs rt rd s
  | .div rs rt => Sys2Proof.Machine.execDiv rs rt s
  | .divu rs rt => Sys2Proof.Machine.execDivu rs rt s
  | .madd rs rt rd => Sys2Proof.Machine.execMadd rs rt rd s
  | .maddu rs rt rd => Sys2Proof.Machine.execMaddu rs rt rd s
  | .mfhi rd => Sys2Proof.Machine.execMfhi rd s
  | .mflo rd => Sys2Proof.Machine.execMflo rd s
  | .mthi rs => Sys2Proof.Machine.execMthi rs s
  | .mtlo rs => Sys2Proof.Machine.execMtlo rs s
  -- 32-bit ISA: jumps, branches, branch-likelies (43_jump_branch32.md)
  | .j target => Sys2Proof.Machine.execJ target s
  | .jal target => Sys2Proof.Machine.execJal target s
  | .jalx target => Sys2Proof.Machine.execJalx target s
  | .jr rs => Sys2Proof.Machine.execJr rs s
  | .jalr rs rd => Sys2Proof.Machine.execJalr rs rd s
  | .beq rs rt offset => Sys2Proof.Machine.execBeq rs rt offset s
  | .bne rs rt offset => Sys2Proof.Machine.execBne rs rt offset s
  | .blez rs offset => Sys2Proof.Machine.execBlez rs offset s
  | .bgtz rs offset => Sys2Proof.Machine.execBgtz rs offset s
  | .bltz rs offset => Sys2Proof.Machine.execBltz rs offset s
  | .bgez rs offset => Sys2Proof.Machine.execBgez rs offset s
  | .bltzal rs offset => Sys2Proof.Machine.execBltzal rs offset s
  | .bgezal rs offset => Sys2Proof.Machine.execBgezal rs offset s
  | .bltzl rs offset => Sys2Proof.Machine.execBltzl rs offset s
  | .bgezl rs offset => Sys2Proof.Machine.execBgezl rs offset s
  | .bltzall rs offset => Sys2Proof.Machine.execBltzall rs offset s
  | .bgezall rs offset => Sys2Proof.Machine.execBgezall rs offset s
  | .beql rs rt offset => Sys2Proof.Machine.execBeql rs rt offset s
  | .bnel rs rt offset => Sys2Proof.Machine.execBnel rs rt offset s
  | .blezl rs offset => Sys2Proof.Machine.execBlezl rs offset s
  | .bgtzl rs offset => Sys2Proof.Machine.execBgtzl rs offset s
  -- 32-bit ISA: coprocessor, system control, special (44_coproc_special32.md)
  | .mfc0 rt rd => Sys2Proof.Machine.execMfc0 rt rd s
  | .mtc0 rt rd => Sys2Proof.Machine.execMtc0 rt rd s
  | .cfc0 rt rd => Sys2Proof.Machine.execCfc0 rt rd s
  | .ctc0 rt rd => Sys2Proof.Machine.execCtc0 rt rd s
  | .mfc1 rt rd => Sys2Proof.Machine.execMfc1 rt rd s
  | .mtc1 rt rd => Sys2Proof.Machine.execMtc1 rt rd s
  | .cfc1 rt rd => Sys2Proof.Machine.execCfc1 rt rd s
  | .ctc1 rt rd => Sys2Proof.Machine.execCtc1 rt rd s
  | .cop1 cofun => Sys2Proof.Machine.execCop1 cofun s
  | .mfc2 rt rd => Sys2Proof.Machine.execMfc2 rt rd s
  | .mtc2 rt rd => Sys2Proof.Machine.execMtc2 rt rd s
  | .cfc2 rt rd => Sys2Proof.Machine.execCfc2 rt rd s
  | .ctc2 rt rd => Sys2Proof.Machine.execCtc2 rt rd s
  | .cop2 cofun => Sys2Proof.Machine.execCop2 cofun s
  | .mfc3 rt rd => Sys2Proof.Machine.execMfc3 rt rd s
  | .mtc3 rt rd => Sys2Proof.Machine.execMtc3 rt rd s
  | .cfc3 rt rd => Sys2Proof.Machine.execCfc3 rt rd s
  | .ctc3 rt rd => Sys2Proof.Machine.execCtc3 rt rd s
  | .cop3 cofun => Sys2Proof.Machine.execCop3 cofun s
  | .bc0f offset => Sys2Proof.Machine.execBc0f offset s
  | .bc0t offset => Sys2Proof.Machine.execBc0t offset s
  | .bc0fl offset => Sys2Proof.Machine.execBc0fl offset s
  | .bc0tl offset => Sys2Proof.Machine.execBc0tl offset s
  | .bc1f offset => Sys2Proof.Machine.execBc1f offset s
  | .bc1t offset => Sys2Proof.Machine.execBc1t offset s
  | .bc1fl offset => Sys2Proof.Machine.execBc1fl offset s
  | .bc1tl offset => Sys2Proof.Machine.execBc1tl offset s
  | .bc2f offset => Sys2Proof.Machine.execBc2f offset s
  | .bc2t offset => Sys2Proof.Machine.execBc2t offset s
  | .bc2fl offset => Sys2Proof.Machine.execBc2fl offset s
  | .bc2tl offset => Sys2Proof.Machine.execBc2tl offset s
  | .bc3f offset => Sys2Proof.Machine.execBc3f offset s
  | .bc3t offset => Sys2Proof.Machine.execBc3t offset s
  | .bc3fl offset => Sys2Proof.Machine.execBc3fl offset s
  | .bc3tl offset => Sys2Proof.Machine.execBc3tl offset s
  | .rfe => Sys2Proof.Machine.execRfe s
  | .deret => Sys2Proof.Machine.execDeret s
  | .tlbr => Sys2Proof.Machine.execTlbr s
  | .tlbwi => Sys2Proof.Machine.execTlbwi s
  | .tlbwr => Sys2Proof.Machine.execTlbwr s
  | .tlbp => Sys2Proof.Machine.execTlbp s
  | .cache base op offset => Sys2Proof.Machine.execCache base op offset s
  | .lwcz z base rt offset => Sys2Proof.Machine.execLwcz z base rt offset s
  | .swcz z base rt offset => Sys2Proof.Machine.execSwcz z base rt offset s
  | .syscall code => Sys2Proof.Machine.execSyscall code s
  | .brk code => Sys2Proof.Machine.execBrk code s
  | .sdbbp code => Sys2Proof.Machine.execSdbbp code s
  -- 16-bit ISA: loads and stores (45_loadstore16.md)
  | .lb16 base ry offset => Sys2Proof.Machine.execLb16 base ry offset s
  | .lbu16 base ry offset => Sys2Proof.Machine.execLbu16 base ry offset s
  | .lh16 base ry offset => Sys2Proof.Machine.execLh16 base ry offset s
  | .lhu16 base ry offset => Sys2Proof.Machine.execLhu16 base ry offset s
  | .lw16 base ry offset => Sys2Proof.Machine.execLw16 base ry offset s
  | .lwpc rx imm => Sys2Proof.Machine.execLwpc rx imm s
  | .lwsp rx imm => Sys2Proof.Machine.execLwsp rx imm s
  | .sb16 base ry offset => Sys2Proof.Machine.execSb16 base ry offset s
  | .sh16 base ry offset => Sys2Proof.Machine.execSh16 base ry offset s
  | .sw16 base ry offset => Sys2Proof.Machine.execSw16 base ry offset s
  | .swsp rx imm => Sys2Proof.Machine.execSwsp rx imm s
  | .swrasp imm => Sys2Proof.Machine.execSwrasp imm s
  -- 16-bit ISA: arithmetic, compare, logical, moves (46_alu16.md)
  | .addiu3 rx ry imm => Sys2Proof.Machine.execAddiu3 rx ry imm s
  | .addiupc rx imm => Sys2Proof.Machine.execAddiupc rx imm s
  | .addiu8 rx imm => Sys2Proof.Machine.execAddiu8 rx imm s
  | .addiusp rx imm => Sys2Proof.Machine.execAddiusp rx imm s
  | .adjsp imm => Sys2Proof.Machine.execAdjsp imm s
  | .addu16 rx ry rz => Sys2Proof.Machine.execAddu16 rx ry rz s
  | .subu16 rx ry rz => Sys2Proof.Machine.execSubu16 rx ry rz s
  | .neg16 rx ry => Sys2Proof.Machine.execNeg16 rx ry s
  | .slt16 rx ry => Sys2Proof.Machine.execSlt16 rx ry s
  | .sltu16 rx ry => Sys2Proof.Machine.execSltu16 rx ry s
  | .slti16 rx imm => Sys2Proof.Machine.execSlti16 rx imm s
  | .sltiu16 rx imm => Sys2Proof.Machine.execSltiu16 rx imm s
  | .movr32 ry r32 => Sys2Proof.Machine.execMovr32 ry r32 s
  | .mov32r r32 rz => Sys2Proof.Machine.execMov32r r32 rz s
  | .cmp16 rx ry => Sys2Proof.Machine.execCmp16 rx ry s
  | .cmpi16 rx imm => Sys2Proof.Machine.execCmpi16 rx imm s
  | .and16 rx ry => Sys2Proof.Machine.execAnd16 rx ry s
  | .or16 rx ry => Sys2Proof.Machine.execOr16 rx ry s
  | .xor16 rx ry => Sys2Proof.Machine.execXor16 rx ry s
  | .not16 rx ry => Sys2Proof.Machine.execNot16 rx ry s
  | .li16 rx imm => Sys2Proof.Machine.execLi16 rx imm s
  -- 16-bit ISA: shifts, multiply, divide (47_shift_muldiv16.md)
  | .sll16 rx ry sa => Sys2Proof.Machine.execSll16 rx ry sa s
  | .srl16 rx ry sa => Sys2Proof.Machine.execSrl16 rx ry sa s
  | .sra16 rx ry sa => Sys2Proof.Machine.execSra16 rx ry sa s
  | .sllv16 rx ry => Sys2Proof.Machine.execSllv16 rx ry s
  | .srlv16 rx ry => Sys2Proof.Machine.execSrlv16 rx ry s
  | .srav16 rx ry => Sys2Proof.Machine.execSrav16 rx ry s
  | .mult16 rx ry => Sys2Proof.Machine.execMult16 rx ry s
  | .multu16 rx ry => Sys2Proof.Machine.execMultu16 rx ry s
  | .div16 rx ry => Sys2Proof.Machine.execDiv16 rx ry s
  | .divu16 rx ry => Sys2Proof.Machine.execDivu16 rx ry s
  | .mfhi16 rx => Sys2Proof.Machine.execMfhi16 rx s
  | .mflo16 rx => Sys2Proof.Machine.execMflo16 rx s
  -- 16-bit ISA: jumps and branches (48_jump_branch16.md)
  | .jal16 target => Sys2Proof.Machine.execJal16 target s
  | .jalx16 target => Sys2Proof.Machine.execJalx16 target s
  | .jr16 rx => Sys2Proof.Machine.execJr16 rx s
  | .jrra => Sys2Proof.Machine.execJrra s
  | .jalr16 rx => Sys2Proof.Machine.execJalr16 rx s
  | .beqz rx offset => Sys2Proof.Machine.execBeqz rx offset s
  | .bnez rx offset => Sys2Proof.Machine.execBnez rx offset s
  | .bteqz offset => Sys2Proof.Machine.execBteqz offset s
  | .btnez offset => Sys2Proof.Machine.execBtnez offset s
  | .b offset => Sys2Proof.Machine.execB offset s
  -- 16-bit ISA: special instructions and EXTEND (49_special_extend16.md)
  | .brk16 code => Sys2Proof.Machine.execBrk16 code s
  | .sdbbp16 code => Sys2Proof.Machine.execSdbbp16 code s
  | .extend imm low => Sys2Proof.Machine.execExtend imm low s
  -- 16-bit ISA: extended forms, EXTEND and an extensible instruction (49_special_extend16.md R425)
  | .lbE base ry imm => Sys2Proof.Machine.execLbE base ry imm s
  | .lbuE base ry imm => Sys2Proof.Machine.execLbuE base ry imm s
  | .lhE base ry imm => Sys2Proof.Machine.execLhE base ry imm s
  | .lhuE base ry imm => Sys2Proof.Machine.execLhuE base ry imm s
  | .lwE base ry imm => Sys2Proof.Machine.execLwE base ry imm s
  | .lwpcE rx imm => Sys2Proof.Machine.execLwpcE rx imm s
  | .lwspE rx imm => Sys2Proof.Machine.execLwspE rx imm s
  | .sbE base ry imm => Sys2Proof.Machine.execSbE base ry imm s
  | .shE base ry imm => Sys2Proof.Machine.execShE base ry imm s
  | .swE base ry imm => Sys2Proof.Machine.execSwE base ry imm s
  | .swspE rx imm => Sys2Proof.Machine.execSwspE rx imm s
  | .swraspE imm => Sys2Proof.Machine.execSwraspE imm s
  | .addiu3E rx ry imm => Sys2Proof.Machine.execAddiu3E rx ry imm s
  | .addiupcE rx imm => Sys2Proof.Machine.execAddiupcE rx imm s
  | .addiu8E rx imm => Sys2Proof.Machine.execAddiu8E rx imm s
  | .addiuspE rx imm => Sys2Proof.Machine.execAddiuspE rx imm s
  | .adjspE imm => Sys2Proof.Machine.execAdjspE imm s
  | .sltiE rx imm => Sys2Proof.Machine.execSltiE rx imm s
  | .sltiuE rx imm => Sys2Proof.Machine.execSltiuE rx imm s
  | .cmpiE rx imm => Sys2Proof.Machine.execCmpiE rx imm s
  | .liE rx imm => Sys2Proof.Machine.execLiE rx imm s
  | .sllE rx ry sa => Sys2Proof.Machine.execSllE rx ry sa s
  | .srlE rx ry sa => Sys2Proof.Machine.execSrlE rx ry sa s
  | .sraE rx ry sa => Sys2Proof.Machine.execSraE rx ry sa s
  | .beqzE rx offset => Sys2Proof.Machine.execBeqzE rx offset s
  | .bnezE rx offset => Sys2Proof.Machine.execBnezE rx offset s
  | .bteqzE offset => Sys2Proof.Machine.execBteqzE offset s
  | .btnezE offset => Sys2Proof.Machine.execBtnezE offset s
  | .bE offset => Sys2Proof.Machine.execBE offset s

end Sys2Proof.Machine
end

