-- ==== Sys2Proof/Machine/Fetch.lean ====
section
/-! DEFINITION. Instruction fetch (20_memory.md R84, R86, R97, R103). -/

namespace Sys2Proof.Machine

open Sys2Proof.Config

/-- What a fetch gives. -/
inductive Fetched where
  /-- AdEL at a fetch address (60_exceptions.md R465). -/
  | addressError (va : Word)
  /-- A fetch from a reserved range (20_memory.md R93). -/
  | reserved
  /-- IBE (60_exceptions.md R466). -/
  | busError
  /-- A byte of the instruction was stored too recently (20_memory.md R103). -/
  | stale
  /-- The instruction's code; whether a bus error in debug mode delivered any value for part of it (R495(a)). -/
  | code (c : Code) (failed : Bool)
  deriving DecidableEq, Repr

/-- Was one of the bytes at these virtual addresses changed by a recent store? -/
def State.stale (s : State) (vas : List Word) : Bool :=
  vas.any fun va => s.storeWindow.any fun e => e.1 == (translate va).toNat

/-- The word a failed fetch in debug mode delivers: any value. -/
def State.openFetch (s : State) : Word := freeWord s.tick .fetchBusError

/-- The fetch of a word of the 32-bit ISA. -/
def State.fetchWord (s : State) (a : Word) : Fetched :=
  match s.access .fetch a 4 (bytesFrom a 4) with
  | .addressError => .addressError a
  | .reserved => .reserved
  | .busError => if s.debugMode then .code (.word s.openFetch) true else .busError
  | .granted => if s.stale (bytesFrom a 4) then .stale else .code (.word (s.wordAt a)) false

/-- The fetch of the second halfword of a pair (49_special_extend16.md R425(f), R426). -/
def State.fetchSecond (s : State) (h0 : Half) (failed : Bool) (a : Word) : Fetched :=
  match s.access .fetch a 2 (bytesFrom a 2) with
  | .addressError => .addressError a
  | .reserved => .reserved
  | .busError => if s.debugMode then .code (.pair h0 (s.openFetch.extractLsb' 16 16)) true else .busError
  | .granted => if s.stale (bytesFrom a 2) then .stale else .code (.pair h0 (s.halfAt a)) failed

/-- A first halfword: the whole instruction, or half of a pair (30_encoding.md R141). -/
def State.fetchRest (s : State) (h0 : Half) (failed : Bool) (a : Word) : Fetched :=
  if isFirstOfTwo h0 then s.fetchSecond h0 failed (a + 2) else .code (.half h0) failed

/-- The fetch of an instruction of the 16-bit ISA. -/
def State.fetchHalf (s : State) (a : Word) : Fetched :=
  match s.access .fetch a 2 (bytesFrom a 2) with
  | .addressError => .addressError a
  | .reserved => .reserved
  | .busError => if s.debugMode then s.fetchRest (s.openFetch.extractLsb' 0 16) true a else .busError
  | .granted => if s.stale (bytesFrom a 2) then .stale else s.fetchRest (s.halfAt a) false a

/-- The fetch at the program counter. -/
def State.fetch (s : State) : Fetched :=
  if s.isa16 then s.fetchHalf s.instrAddr else s.fetchWord s.instrAddr

/-- Does the fetch succeed on an SDBBP (60_exceptions.md R492(b))? -/
def Fetched.isSdbbp : Fetched → Bool
  | .code c _ =>
    match decodeCode c with
    | .instr (.sdbbp _) => true
    | .instr (.sdbbp16 _) => true
    | _ => false
  | _ => false

end Sys2Proof.Machine
end

