-- ==== Sys2Proof/Machine/Platform.lean ====
section
/-! DEFINITION. The inputs of the core (00_scope.md R7, R13) and the Reset exception (60_exceptions.md R462). -/

namespace Sys2Proof.Machine

open Sys2Proof.Config

/-- What one input event does to the state; RESET is taken by the step itself. In Halt mode the core keeps the bus, so no
other master writes memory (60_exceptions.md R503). What such a master writes the next fetch sees at once, in no fetch window (log 49). -/
def applyEvent (s : State) : InputEvent → State
  | .irqLevel level => { s with irqLevel := level }
  | .nmiEdge => { s with nmiPending := true }
  | .reset => s
  | .ivrRead => { s with status := setCmask s.status s.irqLevel }
  | .cpcond lines => { s with cpcond := lines }
  | .busErrors ranges => { s with busErrors := ranges }
  | .busWrite pa b => if s.halted then s else { s with mem := memWrite s.mem pa.toNat b }

/-- The state at the next boundary before its inputs: the counter of free values moves on, and the condition lines so far
are those the previous instruction saw (44_coproc_special32.md R299); a step that executes no instruction counts as one here
(log 53). -/
def State.nextBoundary (s : State) : State :=
  { s with tick := s.tick + 1, cpcondPrev := s.cpcond, inputs := s.inputs.tail }

/-- The inputs of one boundary (60_exceptions.md R481, decision D32). -/
def State.events (s : State) : List InputEvent := s.inputs.headD []

/-- The state with the inputs of a boundary taken in. -/
def State.sample (s : State) : State := s.events.foldl applyEvent s.nextBoundary

/-- Is RESET among the inputs of this boundary? -/
def State.resetDue (s : State) : Bool := s.events.contains .reset

/-- A coprocessor after RESET: product specific (70_reset_and_hazards.md R521), so its registers have any values. -/
def Coprocessor.afterReset (z tick : Nat) (c : Coprocessor) : Coprocessor :=
  { c with
    data := Vector.ofFn fun r => freeWord tick (.copData z r.val)
    ctrl := Vector.ofFn fun r => freeWord tick (.copCtrl z r.val) }

/-- The Reset exception of a running machine (60_exceptions.md R462, 70_reset_and_hazards.md R520, R521): the values the spec
gives, any value where it gives none, memory among it (10_state.md R76, U1); the platform and the signals presented stay (log 10). -/
def State.afterReset (s : State) : State :=
  { s with
    gpr := Vector.ofFn fun r => if r.val = 0 then 0 else freeWord s.tick (.resetGpr r.val)
    hi := freeWord s.tick .resetHi
    lo := freeWord s.tick .resetLo
    pc := 0xBFC00000
    config := 0
    badVAddr := freeWord s.tick (.resetCp0 8)
    status := 0x0040E000 ||| (freeWord s.tick (.resetCp0 12) &&& 0xF0070F3C)
    cause := freeWord s.tick (.resetCp0 13) &&& causeMask
    epc := freeWord s.tick (.resetCp0 14)
    debug := freeWord s.tick (.resetCp0 16) &&& 0x80005403
    depc := freeWord s.tick (.resetCp0 17)
    mem := openMemory s.tick
    slot := none
    prev := .other
    ssSkip := false
    nmiPending := false
    dbe := none
    depcWait := 0
    storeWindow := []
    cop1 := s.cop1.afterReset 1 s.tick
    cop2 := s.cop2.afterReset 2 s.tick
    cop3 := s.cop3.afterReset 3 s.tick }

end Sys2Proof.Machine
end

