-- ==== Sys2Proof/Machine/Boundary.lean ====
section
/-! DEFINITION. What happens at an instruction boundary (60_exceptions.md R450, R477, R481, R487, R492, R506): a nullified
slot is skipped, a stopped core waits, and a pending exception is taken or the next instruction executes. -/

namespace Sys2Proof.Machine

open Sys2Proof.Config

/-- An instruction executes, or takes an exception of its own (log 60): the fetch window (20_memory.md R103) and the wait of DEPC
(70_reset_and_hazards.md R536(d)) count down. -/
def State.age (s : State) : State :=
  { s with
    storeWindow := (s.storeWindow.filter fun e => decide (1 < e.2)).map fun e => (e.1, e.2 - 1)
    depcWait := s.depcWait - 1 }

/-- What a decoding does. -/
def execDecoded (d : Decoded) (s : State) : Result :=
  match d with
  | .instr i => exec i s
  | .reserved => raise .ri s
  | .reservedCop z => ifUsable z s (raise .ri s)
  | .nonZeroField => .refused .nonZeroField
  | .nonZeroFieldCop z => ifUsable z s (.refused .nonZeroField)
  | .unlistedCop0 => ifUsable 0#2 s (.refused .unlistedCop0Operation)

/-- Debug.BsF where a fetch failed in debug mode (60_exceptions.md R495(a)). -/
def State.noteFetch (failed : Bool) (s : State) : State :=
  { s with debug := if failed then s.debug ||| 0x00000400 else s.debug }

/-- What follows a fetch: its exception, or the instruction. -/
def runFetched (f : Fetched) (s : State) : Result :=
  match f with
  | .addressError va => raise (.adel va) s
  | .reserved => .refused .reservedAddress
  | .busError => raise .ibe s
  | .stale => .fault .storeIntoFetchWindow
  | .code c failed => execDecoded (decodeCode c) (s.noteFetch failed).age

/-- Is an NMI taken at this boundary (60_exceptions.md R463, R495(c))? -/
def State.nmiDue (s : State) : Bool := s.nmiPending && !s.debugMode

/-- Are maskable interrupts enabled (10_state.md R75)? -/
def State.interruptsEnabled (s : State) : Bool := !s.debugMode && bit s.status 0

/-- Is the hardware interrupt request acceptable (60_exceptions.md R477)? -/
def State.hwAcceptable (s : State) : Bool :=
  s.interruptsEnabled && decide ((cmask s.status).toNat < s.irqLevel.toNat)

/-- Is software interrupt i acceptable (60_exceptions.md R477)? SwiMask 1 enables it (decision D16). -/
def State.swAcceptable (s : State) (i : BitVec 2) : Bool :=
  s.interruptsEnabled && bit s.cause (8 + i.toNat) && bit s.status (8 + i.toNat)
    && decide ((cmask s.status).toNat < (swiLevel i).toNat)

/-- The interrupt accepted at this boundary (60_exceptions.md R477): the greatest level, hardware before software, the
highest software index. -/
def State.acceptedInterrupt (s : State) : Option Exn :=
  if s.hwAcceptable && decide (4 ≤ s.irqLevel.toNat) then some .intHw
  else if s.swAcceptable 3#2 then some (.intSw 3#2)
  else if s.hwAcceptable then some .intHw
  else if s.swAcceptable 2#2 then some (.intSw 2#2)
  else if s.swAcceptable 1#2 then some (.intSw 1#2)
  else if s.swAcceptable 0#2 then some (.intSw 0#2)
  else none

/-- Does the instruction leave a data bus error to be taken? Asked where none was pending. -/
def meetsBusError : Result → Bool
  | .next t => t.dbe.isSome
  | _ => false

/-- Does the instruction take an exception? -/
def takesException : Result → Bool
  | .next t => t.prev == .entry
  | _ => false

/-- A maskable interrupt is acceptable: with SDBBP next the two coincide (60_exceptions.md R492(b)); an exception or a data bus
error of the next instruction outranks it (R450); otherwise it is taken and the instruction does not execute. -/
def takeInterrupt (e : Exn) (f : Fetched) (s : State) : Result :=
  let r := runFetched f s
  if f.isSdbbp then .next (s.takeCoincident .breakpoint e)
  else if takesException r || meetsBusError r then r
  else .next (s.take e)

/-- Is the single-step exception due (60_exceptions.md R487)? -/
def State.singleStepDue (s : State) : Bool :=
  bit s.debug 8 && !s.debugMode && s.slot.isNone && !s.ssSkip

/-- The single-step exception, together with the AdEL of the next fetch if there is one (60_exceptions.md R492(a)). Where an NMI or
an interrupt is due too, R492(a) and R492(c) both apply: it stays pending here (log 56). -/
def takeSingleStep (s : State) : Result :=
  match s.fetch with
  | .addressError va => .next (s.takeCoincident .singleStep (.adel va))
  | _ => .next (s.takeDebug .singleStep false false)

/-- Does the next instruction wait for the load whose bus error is pending: is it SYNC, or does it read the destination
(60_exceptions.md R466(b))? -/
def waitsForLoad (d : DataBusError) (f : Fetched) : Bool :=
  match d, f with
  | .load dest, .code c _ =>
    match decodeCode c with
    | .instr i => i == .sync || (dest != 0#5 && (sourcesOf i).contains dest)
    | _ => false
  | _, _ => false

/-- Taking a data bus error (60_exceptions.md R466): EPC and BD are defined only where the next instruction waits for the
load, else they have any values (U6). -/
def takeDataBusError (d : DataBusError) (s : State) : State :=
  if waitsForLoad d s.fetch then { s with dbe := none }.take .dbe
  else { s with dbe := none }.takeWith .dbe (freeWord s.tick .busErrorEpc) (bit (freeWord s.tick .busErrorBd) 0)

/-- The data bus error that this boundary may take: none in debug mode (60_exceptions.md R495(a)). One that was pending as debug
mode was entered waits for its end (log 52). -/
def State.dbeDue (s : State) : Option DataBusError := if s.debugMode then none else s.dbe

/-- The boundary once no debug exception is due, by the priorities of 60_exceptions.md R450: IBE, DBE, NMI, the exceptions of the
next instruction, maskable interrupts. A load or store that will meet a bus error goes before an NMI, since DBE does. A data bus
error that an IBE displaces stays pending (log 52). -/
def dispatchNext (s : State) : Result :=
  let f := s.fetch
  let r := runFetched f s
  if f = .busError then r
  else match s.dbeDue with
    | some d => .next (takeDataBusError d s)
    | none =>
      if s.nmiDue && !meetsBusError r then
        if f.isSdbbp then .next (s.takeCoincident .breakpoint .nmi) else .next (s.take .nmi)
      else match s.acceptedInterrupt with
        | some e => takeInterrupt e f s
        | none => r

/-- The boundary of a running core: single step is a debug exception and comes before every general one (60_exceptions.md R491);
a data bus error pending at the same boundary waits (log 52). -/
def runBoundary (s : State) : Result :=
  if s.singleStepDue then takeSingleStep s else dispatchNext s

/-- Does something end Halt or Doze (60_exceptions.md R506): an NMI, or a hardware request, masked or not (decision D19)? In debug mode
an NMI is held pending (R495(c)) and does not end them (log 57). -/
def State.released (s : State) : Bool := s.nmiDue || s.irqLevel != 0#3

/-- The boundary once the inputs are in. A stopped core takes nothing: a single step that is due behind the MTC0 that stopped it waits
for the release too (log 58). -/
def boundary (s : State) : Result :=
  match s.slot.filter (·.nullify) with
  | some k => .next { s with pc := k.target, slot := none }
  | none =>
    if s.stopped then
      if s.released then runBoundary { s with config := wake s.config } else .next s
    else runBoundary s

end Sys2Proof.Machine
end

