-- ==== Sys2Proof/Machine/Step.lean ====
section
/-! DEFINITION. One step: one instruction boundary with its inputs. -/

namespace Sys2Proof.Machine

/-- The inputs of the boundary are taken in; then RESET, or what the boundary does (60_exceptions.md R450, R462). -/
def step (s : State) : Host.Outcome State Fault Refusal :=
  if s.resetDue then .next s.sample.afterReset else boundary s.sample

/-- The state with an instruction of the opcode table stored where the next step fetches: the bytes in memory, the ISA mode
in the program counter, no pending nullified slot and no recent store in the fetch window. -/
def State.withFetchWord (s : State) (nbits w : Nat) : State :=
  let c := tableCode nbits w
  let bytes := (c.bytes s.product.bigEndian ++ [0, 0]).take 4
  { s with
    pc := s.instrAddr ||| (if c.isa16 then 1 else 0)
    mem := memWriteAll s.mem (physicalCells (cellsFrom s.instrAddr bytes))
    slot := s.slot.filter (! ·.nullify)
    storeWindow := [] }

end Sys2Proof.Machine
end

