-- ==== Sys2Proof/Laws/Fields.lean ====
section
/-! SUPPORT. The fields of every format of the encoder: what the decoder's accessors read from what the encoder wrote. -/

set_option linter.unusedSimpArgs false

namespace Sys2Proof

section iWord
variable (op : BitVec 6) (rs rt : Reg) (imm : BitVec 16)

@[simp] theorem iWord_opField : opField (iWord op rs rt imm) = op := by
  change @BitVec.extractLsb' (6 + 5 + 5 + 16) 26 6 (op ++ rs ++ rt ++ imm) = _
  simp (disch := omega) only [BitVec.extractLsb'_append_eq_of_le, BitVec.extractLsb'_append_eq_of_add_le,
    Nat.reduceSub, BitVec.extractLsb'_eq_self]

@[simp] theorem iWord_rsField : rsField (iWord op rs rt imm) = rs := by
  change @BitVec.extractLsb' (6 + 5 + 5 + 16) 21 5 (op ++ rs ++ rt ++ imm) = _
  simp (disch := omega) only [BitVec.extractLsb'_append_eq_of_le, BitVec.extractLsb'_append_eq_of_add_le,
    Nat.reduceSub, BitVec.extractLsb'_eq_self]

@[simp] theorem iWord_rtField : rtField (iWord op rs rt imm) = rt := by
  change @BitVec.extractLsb' (6 + 5 + 5 + 16) 16 5 (op ++ rs ++ rt ++ imm) = _
  simp (disch := omega) only [BitVec.extractLsb'_append_eq_of_le, BitVec.extractLsb'_append_eq_of_add_le,
    Nat.reduceSub, BitVec.extractLsb'_eq_self]

@[simp] theorem iWord_rdField : rdField (iWord op rs rt imm) = (imm).extractLsb' 11 5 := by
  change @BitVec.extractLsb' (6 + 5 + 5 + 16) 11 5 (op ++ rs ++ rt ++ imm) = _
  simp (disch := omega) only [BitVec.extractLsb'_append_eq_of_le, BitVec.extractLsb'_append_eq_of_add_le,
    Nat.reduceSub, BitVec.extractLsb'_eq_self]

@[simp] theorem iWord_saField : saField (iWord op rs rt imm) = (imm).extractLsb' 6 5 := by
  change @BitVec.extractLsb' (6 + 5 + 5 + 16) 6 5 (op ++ rs ++ rt ++ imm) = _
  simp (disch := omega) only [BitVec.extractLsb'_append_eq_of_le, BitVec.extractLsb'_append_eq_of_add_le,
    Nat.reduceSub, BitVec.extractLsb'_eq_self]

@[simp] theorem iWord_fnField : fnField (iWord op rs rt imm) = (imm).extractLsb' 0 6 := by
  change @BitVec.extractLsb' (6 + 5 + 5 + 16) 0 6 (op ++ rs ++ rt ++ imm) = _
  simp (disch := omega) only [BitVec.extractLsb'_append_eq_of_le, BitVec.extractLsb'_append_eq_of_add_le,
    Nat.reduceSub, BitVec.extractLsb'_eq_self]

@[simp] theorem iWord_immField : immField (iWord op rs rt imm) = imm := by
  change @BitVec.extractLsb' (6 + 5 + 5 + 16) 0 16 (op ++ rs ++ rt ++ imm) = _
  simp (disch := omega) only [BitVec.extractLsb'_append_eq_of_le, BitVec.extractLsb'_append_eq_of_add_le,
    Nat.reduceSub, BitVec.extractLsb'_eq_self]

@[simp] theorem iWord_zField : zField (iWord op rs rt imm) = (op).extractLsb' 0 2 := by
  change @BitVec.extractLsb' (6 + 5 + 5 + 16) 26 2 (op ++ rs ++ rt ++ imm) = _
  simp (disch := omega) only [BitVec.extractLsb'_append_eq_of_le, BitVec.extractLsb'_append_eq_of_add_le,
    Nat.reduceSub, BitVec.extractLsb'_eq_self]

@[simp] theorem iWord_bits_0_11 : (iWord op rs rt imm).extractLsb' 0 11 = (imm).extractLsb' 0 11 := by
  change @BitVec.extractLsb' (6 + 5 + 5 + 16) 0 11 (op ++ rs ++ rt ++ imm) = _
  simp (disch := omega) only [BitVec.extractLsb'_append_eq_of_le, BitVec.extractLsb'_append_eq_of_add_le,
    Nat.reduceSub, BitVec.extractLsb'_eq_self]

end iWord

section rWord
variable (op : BitVec 6) (rs rt rd : Reg) (sa : BitVec 5) (fn : BitVec 6)

@[simp] theorem rWord_opField : opField (rWord op rs rt rd sa fn) = op := by
  change @BitVec.extractLsb' (6 + 5 + 5 + 5 + 5 + 6) 26 6 (op ++ rs ++ rt ++ rd ++ sa ++ fn) = _
  simp (disch := omega) only [BitVec.extractLsb'_append_eq_of_le, BitVec.extractLsb'_append_eq_of_add_le,
    Nat.reduceSub, BitVec.extractLsb'_eq_self]

@[simp] theorem rWord_rsField : rsField (rWord op rs rt rd sa fn) = rs := by
  change @BitVec.extractLsb' (6 + 5 + 5 + 5 + 5 + 6) 21 5 (op ++ rs ++ rt ++ rd ++ sa ++ fn) = _
  simp (disch := omega) only [BitVec.extractLsb'_append_eq_of_le, BitVec.extractLsb'_append_eq_of_add_le,
    Nat.reduceSub, BitVec.extractLsb'_eq_self]

@[simp] theorem rWord_rtField : rtField (rWord op rs rt rd sa fn) = rt := by
  change @BitVec.extractLsb' (6 + 5 + 5 + 5 + 5 + 6) 16 5 (op ++ rs ++ rt ++ rd ++ sa ++ fn) = _
  simp (disch := omega) only [BitVec.extractLsb'_append_eq_of_le, BitVec.extractLsb'_append_eq_of_add_le,
    Nat.reduceSub, BitVec.extractLsb'_eq_self]

@[simp] theorem rWord_rdField : rdField (rWord op rs rt rd sa fn) = rd := by
  change @BitVec.extractLsb' (6 + 5 + 5 + 5 + 5 + 6) 11 5 (op ++ rs ++ rt ++ rd ++ sa ++ fn) = _
  simp (disch := omega) only [BitVec.extractLsb'_append_eq_of_le, BitVec.extractLsb'_append_eq_of_add_le,
    Nat.reduceSub, BitVec.extractLsb'_eq_self]

@[simp] theorem rWord_saField : saField (rWord op rs rt rd sa fn) = sa := by
  change @BitVec.extractLsb' (6 + 5 + 5 + 5 + 5 + 6) 6 5 (op ++ rs ++ rt ++ rd ++ sa ++ fn) = _
  simp (disch := omega) only [BitVec.extractLsb'_append_eq_of_le, BitVec.extractLsb'_append_eq_of_add_le,
    Nat.reduceSub, BitVec.extractLsb'_eq_self]

@[simp] theorem rWord_fnField : fnField (rWord op rs rt rd sa fn) = fn := by
  change @BitVec.extractLsb' (6 + 5 + 5 + 5 + 5 + 6) 0 6 (op ++ rs ++ rt ++ rd ++ sa ++ fn) = _
  simp (disch := omega) only [BitVec.extractLsb'_append_eq_of_le, BitVec.extractLsb'_append_eq_of_add_le,
    Nat.reduceSub, BitVec.extractLsb'_eq_self]

@[simp] theorem rWord_zField : zField (rWord op rs rt rd sa fn) = (op).extractLsb' 0 2 := by
  change @BitVec.extractLsb' (6 + 5 + 5 + 5 + 5 + 6) 26 2 (op ++ rs ++ rt ++ rd ++ sa ++ fn) = _
  simp (disch := omega) only [BitVec.extractLsb'_append_eq_of_le, BitVec.extractLsb'_append_eq_of_add_le,
    Nat.reduceSub, BitVec.extractLsb'_eq_self]

end rWord

section jWord
variable (op : BitVec 6) (target : BitVec 26)

@[simp] theorem jWord_opField : opField (jWord op target) = op := by
  change @BitVec.extractLsb' (6 + 26) 26 6 (op ++ target) = _
  simp (disch := omega) only [BitVec.extractLsb'_append_eq_of_le, BitVec.extractLsb'_append_eq_of_add_le,
    Nat.reduceSub, BitVec.extractLsb'_eq_self]

@[simp] theorem jWord_rsField : rsField (jWord op target) = (target).extractLsb' 21 5 := by
  change @BitVec.extractLsb' (6 + 26) 21 5 (op ++ target) = _
  simp (disch := omega) only [BitVec.extractLsb'_append_eq_of_le, BitVec.extractLsb'_append_eq_of_add_le,
    Nat.reduceSub, BitVec.extractLsb'_eq_self]

@[simp] theorem jWord_rtField : rtField (jWord op target) = (target).extractLsb' 16 5 := by
  change @BitVec.extractLsb' (6 + 26) 16 5 (op ++ target) = _
  simp (disch := omega) only [BitVec.extractLsb'_append_eq_of_le, BitVec.extractLsb'_append_eq_of_add_le,
    Nat.reduceSub, BitVec.extractLsb'_eq_self]

@[simp] theorem jWord_rdField : rdField (jWord op target) = (target).extractLsb' 11 5 := by
  change @BitVec.extractLsb' (6 + 26) 11 5 (op ++ target) = _
  simp (disch := omega) only [BitVec.extractLsb'_append_eq_of_le, BitVec.extractLsb'_append_eq_of_add_le,
    Nat.reduceSub, BitVec.extractLsb'_eq_self]

@[simp] theorem jWord_saField : saField (jWord op target) = (target).extractLsb' 6 5 := by
  change @BitVec.extractLsb' (6 + 26) 6 5 (op ++ target) = _
  simp (disch := omega) only [BitVec.extractLsb'_append_eq_of_le, BitVec.extractLsb'_append_eq_of_add_le,
    Nat.reduceSub, BitVec.extractLsb'_eq_self]

@[simp] theorem jWord_fnField : fnField (jWord op target) = (target).extractLsb' 0 6 := by
  change @BitVec.extractLsb' (6 + 26) 0 6 (op ++ target) = _
  simp (disch := omega) only [BitVec.extractLsb'_append_eq_of_le, BitVec.extractLsb'_append_eq_of_add_le,
    Nat.reduceSub, BitVec.extractLsb'_eq_self]

@[simp] theorem jWord_immField : immField (jWord op target) = (target).extractLsb' 0 16 := by
  change @BitVec.extractLsb' (6 + 26) 0 16 (op ++ target) = _
  simp (disch := omega) only [BitVec.extractLsb'_append_eq_of_le, BitVec.extractLsb'_append_eq_of_add_le,
    Nat.reduceSub, BitVec.extractLsb'_eq_self]

@[simp] theorem jWord_targetField : targetField (jWord op target) = target := by
  change @BitVec.extractLsb' (6 + 26) 0 26 (op ++ target) = _
  simp (disch := omega) only [BitVec.extractLsb'_append_eq_of_le, BitVec.extractLsb'_append_eq_of_add_le,
    Nat.reduceSub, BitVec.extractLsb'_eq_self]

@[simp] theorem jWord_codeField : codeField (jWord op target) = (target).extractLsb' 6 20 := by
  change @BitVec.extractLsb' (6 + 26) 6 20 (op ++ target) = _
  simp (disch := omega) only [BitVec.extractLsb'_append_eq_of_le, BitVec.extractLsb'_append_eq_of_add_le,
    Nat.reduceSub, BitVec.extractLsb'_eq_self]

@[simp] theorem jWord_cofunField : cofunField (jWord op target) = (target).extractLsb' 0 25 := by
  change @BitVec.extractLsb' (6 + 26) 0 25 (op ++ target) = _
  simp (disch := omega) only [BitVec.extractLsb'_append_eq_of_le, BitVec.extractLsb'_append_eq_of_add_le,
    Nat.reduceSub, BitVec.extractLsb'_eq_self]

@[simp] theorem jWord_zField : zField (jWord op target) = (op).extractLsb' 0 2 := by
  change @BitVec.extractLsb' (6 + 26) 26 2 (op ++ target) = _
  simp (disch := omega) only [BitVec.extractLsb'_append_eq_of_le, BitVec.extractLsb'_append_eq_of_add_le,
    Nat.reduceSub, BitVec.extractLsb'_eq_self]

@[simp] theorem jWord_bits_0_11 : (jWord op target).extractLsb' 0 11 = (target).extractLsb' 0 11 := by
  change @BitVec.extractLsb' (6 + 26) 0 11 (op ++ target) = _
  simp (disch := omega) only [BitVec.extractLsb'_append_eq_of_le, BitVec.extractLsb'_append_eq_of_add_le,
    Nat.reduceSub, BitVec.extractLsb'_eq_self]

end jWord

section codeWord
variable (code : BitVec 20) (fn : BitVec 6)

@[simp] theorem codeWord_opField : opField (codeWord code fn) = 0b000000#6 := by
  change @BitVec.extractLsb' (6 + 20 + 6) 26 6 (0b000000#6 ++ code ++ fn) = _
  simp (disch := omega) only [BitVec.extractLsb'_append_eq_of_le, BitVec.extractLsb'_append_eq_of_add_le,
    Nat.reduceSub, BitVec.extractLsb'_eq_self]

@[simp] theorem codeWord_rsField : rsField (codeWord code fn) = (code).extractLsb' 15 5 := by
  change @BitVec.extractLsb' (6 + 20 + 6) 21 5 (0b000000#6 ++ code ++ fn) = _
  simp (disch := omega) only [BitVec.extractLsb'_append_eq_of_le, BitVec.extractLsb'_append_eq_of_add_le,
    Nat.reduceSub, BitVec.extractLsb'_eq_self]

@[simp] theorem codeWord_rtField : rtField (codeWord code fn) = (code).extractLsb' 10 5 := by
  change @BitVec.extractLsb' (6 + 20 + 6) 16 5 (0b000000#6 ++ code ++ fn) = _
  simp (disch := omega) only [BitVec.extractLsb'_append_eq_of_le, BitVec.extractLsb'_append_eq_of_add_le,
    Nat.reduceSub, BitVec.extractLsb'_eq_self]

@[simp] theorem codeWord_rdField : rdField (codeWord code fn) = (code).extractLsb' 5 5 := by
  change @BitVec.extractLsb' (6 + 20 + 6) 11 5 (0b000000#6 ++ code ++ fn) = _
  simp (disch := omega) only [BitVec.extractLsb'_append_eq_of_le, BitVec.extractLsb'_append_eq_of_add_le,
    Nat.reduceSub, BitVec.extractLsb'_eq_self]

@[simp] theorem codeWord_saField : saField (codeWord code fn) = (code).extractLsb' 0 5 := by
  change @BitVec.extractLsb' (6 + 20 + 6) 6 5 (0b000000#6 ++ code ++ fn) = _
  simp (disch := omega) only [BitVec.extractLsb'_append_eq_of_le, BitVec.extractLsb'_append_eq_of_add_le,
    Nat.reduceSub, BitVec.extractLsb'_eq_self]

@[simp] theorem codeWord_fnField : fnField (codeWord code fn) = fn := by
  change @BitVec.extractLsb' (6 + 20 + 6) 0 6 (0b000000#6 ++ code ++ fn) = _
  simp (disch := omega) only [BitVec.extractLsb'_append_eq_of_le, BitVec.extractLsb'_append_eq_of_add_le,
    Nat.reduceSub, BitVec.extractLsb'_eq_self]

@[simp] theorem codeWord_codeField : codeField (codeWord code fn) = code := by
  change @BitVec.extractLsb' (6 + 20 + 6) 6 20 (0b000000#6 ++ code ++ fn) = _
  simp (disch := omega) only [BitVec.extractLsb'_append_eq_of_le, BitVec.extractLsb'_append_eq_of_add_le,
    Nat.reduceSub, BitVec.extractLsb'_eq_self]

@[simp] theorem codeWord_zField : zField (codeWord code fn) = (0b000000#6).extractLsb' 0 2 := by
  change @BitVec.extractLsb' (6 + 20 + 6) 26 2 (0b000000#6 ++ code ++ fn) = _
  simp (disch := omega) only [BitVec.extractLsb'_append_eq_of_le, BitVec.extractLsb'_append_eq_of_add_le,
    Nat.reduceSub, BitVec.extractLsb'_eq_self]

end codeWord

section copWord
variable (z : BitVec 2) (sub rt rd : Reg)

@[simp] theorem copWord_opField : opField (copWord z sub rt rd) = (0b0100#4 ++ z : BitVec 6) := by
  change @BitVec.extractLsb' (4 + 2 + 5 + 5 + 5 + 11) 26 6 (0b0100#4 ++ z ++ sub ++ rt ++ rd ++ 0#11) = _
  simp (disch := omega) only [BitVec.extractLsb'_append_eq_of_le, Nat.reduceSub]
  exact BitVec.extractLsb'_eq_self

@[simp] theorem copWord_rsField : rsField (copWord z sub rt rd) = sub := by
  change @BitVec.extractLsb' (4 + 2 + 5 + 5 + 5 + 11) 21 5 (0b0100#4 ++ z ++ sub ++ rt ++ rd ++ 0#11) = _
  simp (disch := omega) only [BitVec.extractLsb'_append_eq_of_le, BitVec.extractLsb'_append_eq_of_add_le,
    Nat.reduceSub, BitVec.extractLsb'_eq_self]

@[simp] theorem copWord_rtField : rtField (copWord z sub rt rd) = rt := by
  change @BitVec.extractLsb' (4 + 2 + 5 + 5 + 5 + 11) 16 5 (0b0100#4 ++ z ++ sub ++ rt ++ rd ++ 0#11) = _
  simp (disch := omega) only [BitVec.extractLsb'_append_eq_of_le, BitVec.extractLsb'_append_eq_of_add_le,
    Nat.reduceSub, BitVec.extractLsb'_eq_self]

@[simp] theorem copWord_rdField : rdField (copWord z sub rt rd) = rd := by
  change @BitVec.extractLsb' (4 + 2 + 5 + 5 + 5 + 11) 11 5 (0b0100#4 ++ z ++ sub ++ rt ++ rd ++ 0#11) = _
  simp (disch := omega) only [BitVec.extractLsb'_append_eq_of_le, BitVec.extractLsb'_append_eq_of_add_le,
    Nat.reduceSub, BitVec.extractLsb'_eq_self]

@[simp] theorem copWord_saField : saField (copWord z sub rt rd) = (0#11).extractLsb' 6 5 := by
  change @BitVec.extractLsb' (4 + 2 + 5 + 5 + 5 + 11) 6 5 (0b0100#4 ++ z ++ sub ++ rt ++ rd ++ 0#11) = _
  simp (disch := omega) only [BitVec.extractLsb'_append_eq_of_le, BitVec.extractLsb'_append_eq_of_add_le,
    Nat.reduceSub, BitVec.extractLsb'_eq_self]

@[simp] theorem copWord_fnField : fnField (copWord z sub rt rd) = (0#11).extractLsb' 0 6 := by
  change @BitVec.extractLsb' (4 + 2 + 5 + 5 + 5 + 11) 0 6 (0b0100#4 ++ z ++ sub ++ rt ++ rd ++ 0#11) = _
  simp (disch := omega) only [BitVec.extractLsb'_append_eq_of_le, BitVec.extractLsb'_append_eq_of_add_le,
    Nat.reduceSub, BitVec.extractLsb'_eq_self]

@[simp] theorem copWord_zField : zField (copWord z sub rt rd) = z := by
  change @BitVec.extractLsb' (4 + 2 + 5 + 5 + 5 + 11) 26 2 (0b0100#4 ++ z ++ sub ++ rt ++ rd ++ 0#11) = _
  simp (disch := omega) only [BitVec.extractLsb'_append_eq_of_le, BitVec.extractLsb'_append_eq_of_add_le,
    Nat.reduceSub, BitVec.extractLsb'_eq_self]

@[simp] theorem copWord_bits_0_11 : (copWord z sub rt rd).extractLsb' 0 11 = 0#11 := by
  change @BitVec.extractLsb' (4 + 2 + 5 + 5 + 5 + 11) 0 11 (0b0100#4 ++ z ++ sub ++ rt ++ rd ++ 0#11) = _
  simp (disch := omega) only [BitVec.extractLsb'_append_eq_of_le, BitVec.extractLsb'_append_eq_of_add_le,
    Nat.reduceSub, BitVec.extractLsb'_eq_self]

end copWord

section cofunWord
variable (z : BitVec 2) (cofun : BitVec 25)

@[simp] theorem cofunWord_opField : opField (cofunWord z cofun) = (0b0100#4 ++ z : BitVec 6) := by
  change @BitVec.extractLsb' (4 + 2 + 1 + 25) 26 6 (0b0100#4 ++ z ++ 1#1 ++ cofun) = _
  simp (disch := omega) only [BitVec.extractLsb'_append_eq_of_le, Nat.reduceSub]
  exact BitVec.extractLsb'_eq_self

@[simp] theorem cofunWord_rtField : rtField (cofunWord z cofun) = (cofun).extractLsb' 16 5 := by
  change @BitVec.extractLsb' (4 + 2 + 1 + 25) 16 5 (0b0100#4 ++ z ++ 1#1 ++ cofun) = _
  simp (disch := omega) only [BitVec.extractLsb'_append_eq_of_le, BitVec.extractLsb'_append_eq_of_add_le,
    Nat.reduceSub, BitVec.extractLsb'_eq_self]

@[simp] theorem cofunWord_rdField : rdField (cofunWord z cofun) = (cofun).extractLsb' 11 5 := by
  change @BitVec.extractLsb' (4 + 2 + 1 + 25) 11 5 (0b0100#4 ++ z ++ 1#1 ++ cofun) = _
  simp (disch := omega) only [BitVec.extractLsb'_append_eq_of_le, BitVec.extractLsb'_append_eq_of_add_le,
    Nat.reduceSub, BitVec.extractLsb'_eq_self]

@[simp] theorem cofunWord_saField : saField (cofunWord z cofun) = (cofun).extractLsb' 6 5 := by
  change @BitVec.extractLsb' (4 + 2 + 1 + 25) 6 5 (0b0100#4 ++ z ++ 1#1 ++ cofun) = _
  simp (disch := omega) only [BitVec.extractLsb'_append_eq_of_le, BitVec.extractLsb'_append_eq_of_add_le,
    Nat.reduceSub, BitVec.extractLsb'_eq_self]

@[simp] theorem cofunWord_fnField : fnField (cofunWord z cofun) = (cofun).extractLsb' 0 6 := by
  change @BitVec.extractLsb' (4 + 2 + 1 + 25) 0 6 (0b0100#4 ++ z ++ 1#1 ++ cofun) = _
  simp (disch := omega) only [BitVec.extractLsb'_append_eq_of_le, BitVec.extractLsb'_append_eq_of_add_le,
    Nat.reduceSub, BitVec.extractLsb'_eq_self]

@[simp] theorem cofunWord_immField : immField (cofunWord z cofun) = (cofun).extractLsb' 0 16 := by
  change @BitVec.extractLsb' (4 + 2 + 1 + 25) 0 16 (0b0100#4 ++ z ++ 1#1 ++ cofun) = _
  simp (disch := omega) only [BitVec.extractLsb'_append_eq_of_le, BitVec.extractLsb'_append_eq_of_add_le,
    Nat.reduceSub, BitVec.extractLsb'_eq_self]

@[simp] theorem cofunWord_cofunField : cofunField (cofunWord z cofun) = cofun := by
  change @BitVec.extractLsb' (4 + 2 + 1 + 25) 0 25 (0b0100#4 ++ z ++ 1#1 ++ cofun) = _
  simp (disch := omega) only [BitVec.extractLsb'_append_eq_of_le, BitVec.extractLsb'_append_eq_of_add_le,
    Nat.reduceSub, BitVec.extractLsb'_eq_self]

@[simp] theorem cofunWord_zField : zField (cofunWord z cofun) = z := by
  change @BitVec.extractLsb' (4 + 2 + 1 + 25) 26 2 (0b0100#4 ++ z ++ 1#1 ++ cofun) = _
  simp (disch := omega) only [BitVec.extractLsb'_append_eq_of_le, BitVec.extractLsb'_append_eq_of_add_le,
    Nat.reduceSub, BitVec.extractLsb'_eq_self]

@[simp] theorem cofunWord_bits_0_11 : (cofunWord z cofun).extractLsb' 0 11 = (cofun).extractLsb' 0 11 := by
  change @BitVec.extractLsb' (4 + 2 + 1 + 25) 0 11 (0b0100#4 ++ z ++ 1#1 ++ cofun) = _
  simp (disch := omega) only [BitVec.extractLsb'_append_eq_of_le, BitVec.extractLsb'_append_eq_of_add_le,
    Nat.reduceSub, BitVec.extractLsb'_eq_self]

end cofunWord

section zWord
variable (op : BitVec 4) (z : BitVec 2) (rs rt : Reg) (imm : BitVec 16)

@[simp] theorem zWord_opField : opField (zWord op z rs rt imm) = (op ++ z : BitVec 6) := by
  change @BitVec.extractLsb' (4 + 2 + 5 + 5 + 16) 26 6 (op ++ z ++ rs ++ rt ++ imm) = _
  simp (disch := omega) only [BitVec.extractLsb'_append_eq_of_le, Nat.reduceSub]
  exact BitVec.extractLsb'_eq_self

@[simp] theorem zWord_rsField : rsField (zWord op z rs rt imm) = rs := by
  change @BitVec.extractLsb' (4 + 2 + 5 + 5 + 16) 21 5 (op ++ z ++ rs ++ rt ++ imm) = _
  simp (disch := omega) only [BitVec.extractLsb'_append_eq_of_le, BitVec.extractLsb'_append_eq_of_add_le,
    Nat.reduceSub, BitVec.extractLsb'_eq_self]

@[simp] theorem zWord_rtField : rtField (zWord op z rs rt imm) = rt := by
  change @BitVec.extractLsb' (4 + 2 + 5 + 5 + 16) 16 5 (op ++ z ++ rs ++ rt ++ imm) = _
  simp (disch := omega) only [BitVec.extractLsb'_append_eq_of_le, BitVec.extractLsb'_append_eq_of_add_le,
    Nat.reduceSub, BitVec.extractLsb'_eq_self]

@[simp] theorem zWord_rdField : rdField (zWord op z rs rt imm) = (imm).extractLsb' 11 5 := by
  change @BitVec.extractLsb' (4 + 2 + 5 + 5 + 16) 11 5 (op ++ z ++ rs ++ rt ++ imm) = _
  simp (disch := omega) only [BitVec.extractLsb'_append_eq_of_le, BitVec.extractLsb'_append_eq_of_add_le,
    Nat.reduceSub, BitVec.extractLsb'_eq_self]

@[simp] theorem zWord_saField : saField (zWord op z rs rt imm) = (imm).extractLsb' 6 5 := by
  change @BitVec.extractLsb' (4 + 2 + 5 + 5 + 16) 6 5 (op ++ z ++ rs ++ rt ++ imm) = _
  simp (disch := omega) only [BitVec.extractLsb'_append_eq_of_le, BitVec.extractLsb'_append_eq_of_add_le,
    Nat.reduceSub, BitVec.extractLsb'_eq_self]

@[simp] theorem zWord_fnField : fnField (zWord op z rs rt imm) = (imm).extractLsb' 0 6 := by
  change @BitVec.extractLsb' (4 + 2 + 5 + 5 + 16) 0 6 (op ++ z ++ rs ++ rt ++ imm) = _
  simp (disch := omega) only [BitVec.extractLsb'_append_eq_of_le, BitVec.extractLsb'_append_eq_of_add_le,
    Nat.reduceSub, BitVec.extractLsb'_eq_self]

@[simp] theorem zWord_immField : immField (zWord op z rs rt imm) = imm := by
  change @BitVec.extractLsb' (4 + 2 + 5 + 5 + 16) 0 16 (op ++ z ++ rs ++ rt ++ imm) = _
  simp (disch := omega) only [BitVec.extractLsb'_append_eq_of_le, BitVec.extractLsb'_append_eq_of_add_le,
    Nat.reduceSub, BitVec.extractLsb'_eq_self]

@[simp] theorem zWord_zField : zField (zWord op z rs rt imm) = z := by
  change @BitVec.extractLsb' (4 + 2 + 5 + 5 + 16) 26 2 (op ++ z ++ rs ++ rt ++ imm) = _
  simp (disch := omega) only [BitVec.extractLsb'_append_eq_of_le, BitVec.extractLsb'_append_eq_of_add_le,
    Nat.reduceSub, BitVec.extractLsb'_eq_self]

@[simp] theorem zWord_bits_0_11 : (zWord op z rs rt imm).extractLsb' 0 11 = (imm).extractLsb' 0 11 := by
  change @BitVec.extractLsb' (4 + 2 + 5 + 5 + 16) 0 11 (op ++ z ++ rs ++ rt ++ imm) = _
  simp (disch := omega) only [BitVec.extractLsb'_append_eq_of_le, BitVec.extractLsb'_append_eq_of_add_le,
    Nat.reduceSub, BitVec.extractLsb'_eq_self]

end zWord

section riHalf
variable (op : BitVec 5) (rx : Reg3) (imm : BitVec 8)

@[simp] theorem riHalf_op16Field : op16Field (riHalf op rx imm) = op := by
  change @BitVec.extractLsb' (5 + 3 + 8) 11 5 (op ++ rx ++ imm) = _
  simp (disch := omega) only [BitVec.extractLsb'_append_eq_of_le, BitVec.extractLsb'_append_eq_of_add_le,
    Nat.reduceSub, BitVec.extractLsb'_eq_self]

@[simp] theorem riHalf_rxField : rxField (riHalf op rx imm) = rx := by
  change @BitVec.extractLsb' (5 + 3 + 8) 8 3 (op ++ rx ++ imm) = _
  simp (disch := omega) only [BitVec.extractLsb'_append_eq_of_le, BitVec.extractLsb'_append_eq_of_add_le,
    Nat.reduceSub, BitVec.extractLsb'_eq_self]

@[simp] theorem riHalf_ryField : ryField (riHalf op rx imm) = (imm).extractLsb' 5 3 := by
  change @BitVec.extractLsb' (5 + 3 + 8) 5 3 (op ++ rx ++ imm) = _
  simp (disch := omega) only [BitVec.extractLsb'_append_eq_of_le, BitVec.extractLsb'_append_eq_of_add_le,
    Nat.reduceSub, BitVec.extractLsb'_eq_self]

@[simp] theorem riHalf_rzField : rzField (riHalf op rx imm) = (imm).extractLsb' 2 3 := by
  change @BitVec.extractLsb' (5 + 3 + 8) 2 3 (op ++ rx ++ imm) = _
  simp (disch := omega) only [BitVec.extractLsb'_append_eq_of_le, BitVec.extractLsb'_append_eq_of_add_le,
    Nat.reduceSub, BitVec.extractLsb'_eq_self]

@[simp] theorem riHalf_imm8Field : imm8Field (riHalf op rx imm) = imm := by
  change @BitVec.extractLsb' (5 + 3 + 8) 0 8 (op ++ rx ++ imm) = _
  simp (disch := omega) only [BitVec.extractLsb'_append_eq_of_le, BitVec.extractLsb'_append_eq_of_add_le,
    Nat.reduceSub, BitVec.extractLsb'_eq_self]

@[simp] theorem riHalf_imm5Field : imm5Field (riHalf op rx imm) = (imm).extractLsb' 0 5 := by
  change @BitVec.extractLsb' (5 + 3 + 8) 0 5 (op ++ rx ++ imm) = _
  simp (disch := omega) only [BitVec.extractLsb'_append_eq_of_le, BitVec.extractLsb'_append_eq_of_add_le,
    Nat.reduceSub, BitVec.extractLsb'_eq_self]

@[simp] theorem riHalf_bits_0_2 : (riHalf op rx imm).extractLsb' 0 2 = (imm).extractLsb' 0 2 := by
  change @BitVec.extractLsb' (5 + 3 + 8) 0 2 (op ++ rx ++ imm) = _
  simp (disch := omega) only [BitVec.extractLsb'_append_eq_of_le, BitVec.extractLsb'_append_eq_of_add_le,
    Nat.reduceSub, BitVec.extractLsb'_eq_self]

@[simp] theorem riHalf_bits_4_1 : (riHalf op rx imm).extractLsb' 4 1 = (imm).extractLsb' 4 1 := by
  change @BitVec.extractLsb' (5 + 3 + 8) 4 1 (op ++ rx ++ imm) = _
  simp (disch := omega) only [BitVec.extractLsb'_append_eq_of_le, BitVec.extractLsb'_append_eq_of_add_le,
    Nat.reduceSub, BitVec.extractLsb'_eq_self]

@[simp] theorem riHalf_bits_0_4 : (riHalf op rx imm).extractLsb' 0 4 = (imm).extractLsb' 0 4 := by
  change @BitVec.extractLsb' (5 + 3 + 8) 0 4 (op ++ rx ++ imm) = _
  simp (disch := omega) only [BitVec.extractLsb'_append_eq_of_le, BitVec.extractLsb'_append_eq_of_add_le,
    Nat.reduceSub, BitVec.extractLsb'_eq_self]

@[simp] theorem riHalf_bits_3_2 : (riHalf op rx imm).extractLsb' 3 2 = (imm).extractLsb' 3 2 := by
  change @BitVec.extractLsb' (5 + 3 + 8) 3 2 (op ++ rx ++ imm) = _
  simp (disch := omega) only [BitVec.extractLsb'_append_eq_of_le, BitVec.extractLsb'_append_eq_of_add_le,
    Nat.reduceSub, BitVec.extractLsb'_eq_self]

@[simp] theorem riHalf_bits_5_3 : (riHalf op rx imm).extractLsb' 5 3 = (imm).extractLsb' 5 3 := by
  change @BitVec.extractLsb' (5 + 3 + 8) 5 3 (op ++ rx ++ imm) = _
  simp (disch := omega) only [BitVec.extractLsb'_append_eq_of_le, BitVec.extractLsb'_append_eq_of_add_le,
    Nat.reduceSub, BitVec.extractLsb'_eq_self]

@[simp] theorem riHalf_bits_0_3 : (riHalf op rx imm).extractLsb' 0 3 = (imm).extractLsb' 0 3 := by
  change @BitVec.extractLsb' (5 + 3 + 8) 0 3 (op ++ rx ++ imm) = _
  simp (disch := omega) only [BitVec.extractLsb'_append_eq_of_le, BitVec.extractLsb'_append_eq_of_add_le,
    Nat.reduceSub, BitVec.extractLsb'_eq_self]

@[simp] theorem riHalf_bits_10_1 : (riHalf op rx imm).extractLsb' 10 1 = (rx).extractLsb' 2 1 := by
  change @BitVec.extractLsb' (5 + 3 + 8) 10 1 (op ++ rx ++ imm) = _
  simp (disch := omega) only [BitVec.extractLsb'_append_eq_of_le, BitVec.extractLsb'_append_eq_of_add_le,
    Nat.reduceSub, BitVec.extractLsb'_eq_self]

@[simp] theorem riHalf_bits_0_5 : (riHalf op rx imm).extractLsb' 0 5 = (imm).extractLsb' 0 5 := by
  change @BitVec.extractLsb' (5 + 3 + 8) 0 5 (op ++ rx ++ imm) = _
  simp (disch := omega) only [BitVec.extractLsb'_append_eq_of_le, BitVec.extractLsb'_append_eq_of_add_le,
    Nat.reduceSub, BitVec.extractLsb'_eq_self]

@[simp] theorem riHalf_bits_0_6 : (riHalf op rx imm).extractLsb' 0 6 = (imm).extractLsb' 0 6 := by
  change @BitVec.extractLsb' (5 + 3 + 8) 0 6 (op ++ rx ++ imm) = _
  simp (disch := omega) only [BitVec.extractLsb'_append_eq_of_le, BitVec.extractLsb'_append_eq_of_add_le,
    Nat.reduceSub, BitVec.extractLsb'_eq_self]

@[simp] theorem riHalf_bits_11_5 : (riHalf op rx imm).extractLsb' 11 5 = op := by
  change @BitVec.extractLsb' (5 + 3 + 8) 11 5 (op ++ rx ++ imm) = _
  simp (disch := omega) only [BitVec.extractLsb'_append_eq_of_le, BitVec.extractLsb'_append_eq_of_add_le,
    Nat.reduceSub, BitVec.extractLsb'_eq_self]

end riHalf

section rriHalf
variable (op : BitVec 5) (rx ry : Reg3) (imm : BitVec 5)

@[simp] theorem rriHalf_op16Field : op16Field (rriHalf op rx ry imm) = op := by
  change @BitVec.extractLsb' (5 + 3 + 3 + 5) 11 5 (op ++ rx ++ ry ++ imm) = _
  simp (disch := omega) only [BitVec.extractLsb'_append_eq_of_le, BitVec.extractLsb'_append_eq_of_add_le,
    Nat.reduceSub, BitVec.extractLsb'_eq_self]

@[simp] theorem rriHalf_rxField : rxField (rriHalf op rx ry imm) = rx := by
  change @BitVec.extractLsb' (5 + 3 + 3 + 5) 8 3 (op ++ rx ++ ry ++ imm) = _
  simp (disch := omega) only [BitVec.extractLsb'_append_eq_of_le, BitVec.extractLsb'_append_eq_of_add_le,
    Nat.reduceSub, BitVec.extractLsb'_eq_self]

@[simp] theorem rriHalf_ryField : ryField (rriHalf op rx ry imm) = ry := by
  change @BitVec.extractLsb' (5 + 3 + 3 + 5) 5 3 (op ++ rx ++ ry ++ imm) = _
  simp (disch := omega) only [BitVec.extractLsb'_append_eq_of_le, BitVec.extractLsb'_append_eq_of_add_le,
    Nat.reduceSub, BitVec.extractLsb'_eq_self]

@[simp] theorem rriHalf_rzField : rzField (rriHalf op rx ry imm) = (imm).extractLsb' 2 3 := by
  change @BitVec.extractLsb' (5 + 3 + 3 + 5) 2 3 (op ++ rx ++ ry ++ imm) = _
  simp (disch := omega) only [BitVec.extractLsb'_append_eq_of_le, BitVec.extractLsb'_append_eq_of_add_le,
    Nat.reduceSub, BitVec.extractLsb'_eq_self]

@[simp] theorem rriHalf_imm5Field : imm5Field (rriHalf op rx ry imm) = imm := by
  change @BitVec.extractLsb' (5 + 3 + 3 + 5) 0 5 (op ++ rx ++ ry ++ imm) = _
  simp (disch := omega) only [BitVec.extractLsb'_append_eq_of_le, BitVec.extractLsb'_append_eq_of_add_le,
    Nat.reduceSub, BitVec.extractLsb'_eq_self]

@[simp] theorem rriHalf_bits_0_2 : (rriHalf op rx ry imm).extractLsb' 0 2 = (imm).extractLsb' 0 2 := by
  change @BitVec.extractLsb' (5 + 3 + 3 + 5) 0 2 (op ++ rx ++ ry ++ imm) = _
  simp (disch := omega) only [BitVec.extractLsb'_append_eq_of_le, BitVec.extractLsb'_append_eq_of_add_le,
    Nat.reduceSub, BitVec.extractLsb'_eq_self]

@[simp] theorem rriHalf_bits_4_1 : (rriHalf op rx ry imm).extractLsb' 4 1 = (imm).extractLsb' 4 1 := by
  change @BitVec.extractLsb' (5 + 3 + 3 + 5) 4 1 (op ++ rx ++ ry ++ imm) = _
  simp (disch := omega) only [BitVec.extractLsb'_append_eq_of_le, BitVec.extractLsb'_append_eq_of_add_le,
    Nat.reduceSub, BitVec.extractLsb'_eq_self]

@[simp] theorem rriHalf_bits_0_4 : (rriHalf op rx ry imm).extractLsb' 0 4 = (imm).extractLsb' 0 4 := by
  change @BitVec.extractLsb' (5 + 3 + 3 + 5) 0 4 (op ++ rx ++ ry ++ imm) = _
  simp (disch := omega) only [BitVec.extractLsb'_append_eq_of_le, BitVec.extractLsb'_append_eq_of_add_le,
    Nat.reduceSub, BitVec.extractLsb'_eq_self]

@[simp] theorem rriHalf_bits_3_2 : (rriHalf op rx ry imm).extractLsb' 3 2 = (imm).extractLsb' 3 2 := by
  change @BitVec.extractLsb' (5 + 3 + 3 + 5) 3 2 (op ++ rx ++ ry ++ imm) = _
  simp (disch := omega) only [BitVec.extractLsb'_append_eq_of_le, BitVec.extractLsb'_append_eq_of_add_le,
    Nat.reduceSub, BitVec.extractLsb'_eq_self]

@[simp] theorem rriHalf_bits_5_3 : (rriHalf op rx ry imm).extractLsb' 5 3 = ry := by
  change @BitVec.extractLsb' (5 + 3 + 3 + 5) 5 3 (op ++ rx ++ ry ++ imm) = _
  simp (disch := omega) only [BitVec.extractLsb'_append_eq_of_le, BitVec.extractLsb'_append_eq_of_add_le,
    Nat.reduceSub, BitVec.extractLsb'_eq_self]

@[simp] theorem rriHalf_bits_0_3 : (rriHalf op rx ry imm).extractLsb' 0 3 = (imm).extractLsb' 0 3 := by
  change @BitVec.extractLsb' (5 + 3 + 3 + 5) 0 3 (op ++ rx ++ ry ++ imm) = _
  simp (disch := omega) only [BitVec.extractLsb'_append_eq_of_le, BitVec.extractLsb'_append_eq_of_add_le,
    Nat.reduceSub, BitVec.extractLsb'_eq_self]

@[simp] theorem rriHalf_bits_10_1 : (rriHalf op rx ry imm).extractLsb' 10 1 = (rx).extractLsb' 2 1 := by
  change @BitVec.extractLsb' (5 + 3 + 3 + 5) 10 1 (op ++ rx ++ ry ++ imm) = _
  simp (disch := omega) only [BitVec.extractLsb'_append_eq_of_le, BitVec.extractLsb'_append_eq_of_add_le,
    Nat.reduceSub, BitVec.extractLsb'_eq_self]

@[simp] theorem rriHalf_bits_0_5 : (rriHalf op rx ry imm).extractLsb' 0 5 = imm := by
  change @BitVec.extractLsb' (5 + 3 + 3 + 5) 0 5 (op ++ rx ++ ry ++ imm) = _
  simp (disch := omega) only [BitVec.extractLsb'_append_eq_of_le, BitVec.extractLsb'_append_eq_of_add_le,
    Nat.reduceSub, BitVec.extractLsb'_eq_self]

@[simp] theorem rriHalf_bits_11_5 : (rriHalf op rx ry imm).extractLsb' 11 5 = op := by
  change @BitVec.extractLsb' (5 + 3 + 3 + 5) 11 5 (op ++ rx ++ ry ++ imm) = _
  simp (disch := omega) only [BitVec.extractLsb'_append_eq_of_le, BitVec.extractLsb'_append_eq_of_add_le,
    Nat.reduceSub, BitVec.extractLsb'_eq_self]

end rriHalf

section rrrHalf
variable (op : BitVec 5) (rx ry rz : Reg3) (f : BitVec 2)

@[simp] theorem rrrHalf_op16Field : op16Field (rrrHalf op rx ry rz f) = op := by
  change @BitVec.extractLsb' (5 + 3 + 3 + 3 + 2) 11 5 (op ++ rx ++ ry ++ rz ++ f) = _
  simp (disch := omega) only [BitVec.extractLsb'_append_eq_of_le, BitVec.extractLsb'_append_eq_of_add_le,
    Nat.reduceSub, BitVec.extractLsb'_eq_self]

@[simp] theorem rrrHalf_rxField : rxField (rrrHalf op rx ry rz f) = rx := by
  change @BitVec.extractLsb' (5 + 3 + 3 + 3 + 2) 8 3 (op ++ rx ++ ry ++ rz ++ f) = _
  simp (disch := omega) only [BitVec.extractLsb'_append_eq_of_le, BitVec.extractLsb'_append_eq_of_add_le,
    Nat.reduceSub, BitVec.extractLsb'_eq_self]

@[simp] theorem rrrHalf_ryField : ryField (rrrHalf op rx ry rz f) = ry := by
  change @BitVec.extractLsb' (5 + 3 + 3 + 3 + 2) 5 3 (op ++ rx ++ ry ++ rz ++ f) = _
  simp (disch := omega) only [BitVec.extractLsb'_append_eq_of_le, BitVec.extractLsb'_append_eq_of_add_le,
    Nat.reduceSub, BitVec.extractLsb'_eq_self]

@[simp] theorem rrrHalf_rzField : rzField (rrrHalf op rx ry rz f) = rz := by
  change @BitVec.extractLsb' (5 + 3 + 3 + 3 + 2) 2 3 (op ++ rx ++ ry ++ rz ++ f) = _
  simp (disch := omega) only [BitVec.extractLsb'_append_eq_of_le, BitVec.extractLsb'_append_eq_of_add_le,
    Nat.reduceSub, BitVec.extractLsb'_eq_self]

@[simp] theorem rrrHalf_bits_0_2 : (rrrHalf op rx ry rz f).extractLsb' 0 2 = f := by
  change @BitVec.extractLsb' (5 + 3 + 3 + 3 + 2) 0 2 (op ++ rx ++ ry ++ rz ++ f) = _
  simp (disch := omega) only [BitVec.extractLsb'_append_eq_of_le, BitVec.extractLsb'_append_eq_of_add_le,
    Nat.reduceSub, BitVec.extractLsb'_eq_self]

@[simp] theorem rrrHalf_bits_4_1 : (rrrHalf op rx ry rz f).extractLsb' 4 1 = (rz).extractLsb' 2 1 := by
  change @BitVec.extractLsb' (5 + 3 + 3 + 3 + 2) 4 1 (op ++ rx ++ ry ++ rz ++ f) = _
  simp (disch := omega) only [BitVec.extractLsb'_append_eq_of_le, BitVec.extractLsb'_append_eq_of_add_le,
    Nat.reduceSub, BitVec.extractLsb'_eq_self]

@[simp] theorem rrrHalf_bits_3_2 : (rrrHalf op rx ry rz f).extractLsb' 3 2 = (rz).extractLsb' 1 2 := by
  change @BitVec.extractLsb' (5 + 3 + 3 + 3 + 2) 3 2 (op ++ rx ++ ry ++ rz ++ f) = _
  simp (disch := omega) only [BitVec.extractLsb'_append_eq_of_le, BitVec.extractLsb'_append_eq_of_add_le,
    Nat.reduceSub, BitVec.extractLsb'_eq_self]

@[simp] theorem rrrHalf_bits_5_3 : (rrrHalf op rx ry rz f).extractLsb' 5 3 = ry := by
  change @BitVec.extractLsb' (5 + 3 + 3 + 3 + 2) 5 3 (op ++ rx ++ ry ++ rz ++ f) = _
  simp (disch := omega) only [BitVec.extractLsb'_append_eq_of_le, BitVec.extractLsb'_append_eq_of_add_le,
    Nat.reduceSub, BitVec.extractLsb'_eq_self]

@[simp] theorem rrrHalf_bits_10_1 : (rrrHalf op rx ry rz f).extractLsb' 10 1 = (rx).extractLsb' 2 1 := by
  change @BitVec.extractLsb' (5 + 3 + 3 + 3 + 2) 10 1 (op ++ rx ++ ry ++ rz ++ f) = _
  simp (disch := omega) only [BitVec.extractLsb'_append_eq_of_le, BitVec.extractLsb'_append_eq_of_add_le,
    Nat.reduceSub, BitVec.extractLsb'_eq_self]

@[simp] theorem rrrHalf_bits_11_5 : (rrrHalf op rx ry rz f).extractLsb' 11 5 = op := by
  change @BitVec.extractLsb' (5 + 3 + 3 + 3 + 2) 11 5 (op ++ rx ++ ry ++ rz ++ f) = _
  simp (disch := omega) only [BitVec.extractLsb'_append_eq_of_le, BitVec.extractLsb'_append_eq_of_add_le,
    Nat.reduceSub, BitVec.extractLsb'_eq_self]

end rrrHalf

section rriaHalf
variable (rx ry : Reg3) (imm : BitVec 4)

@[simp] theorem rriaHalf_op16Field : op16Field (rriaHalf rx ry imm) = 0b01000#5 := by
  change @BitVec.extractLsb' (5 + 3 + 3 + 1 + 4) 11 5 (0b01000#5 ++ rx ++ ry ++ 0#1 ++ imm) = _
  simp (disch := omega) only [BitVec.extractLsb'_append_eq_of_le, BitVec.extractLsb'_append_eq_of_add_le,
    Nat.reduceSub, BitVec.extractLsb'_eq_self]

@[simp] theorem rriaHalf_rxField : rxField (rriaHalf rx ry imm) = rx := by
  change @BitVec.extractLsb' (5 + 3 + 3 + 1 + 4) 8 3 (0b01000#5 ++ rx ++ ry ++ 0#1 ++ imm) = _
  simp (disch := omega) only [BitVec.extractLsb'_append_eq_of_le, BitVec.extractLsb'_append_eq_of_add_le,
    Nat.reduceSub, BitVec.extractLsb'_eq_self]

@[simp] theorem rriaHalf_ryField : ryField (rriaHalf rx ry imm) = ry := by
  change @BitVec.extractLsb' (5 + 3 + 3 + 1 + 4) 5 3 (0b01000#5 ++ rx ++ ry ++ 0#1 ++ imm) = _
  simp (disch := omega) only [BitVec.extractLsb'_append_eq_of_le, BitVec.extractLsb'_append_eq_of_add_le,
    Nat.reduceSub, BitVec.extractLsb'_eq_self]

@[simp] theorem rriaHalf_bits_0_2 : (rriaHalf rx ry imm).extractLsb' 0 2 = (imm).extractLsb' 0 2 := by
  change @BitVec.extractLsb' (5 + 3 + 3 + 1 + 4) 0 2 (0b01000#5 ++ rx ++ ry ++ 0#1 ++ imm) = _
  simp (disch := omega) only [BitVec.extractLsb'_append_eq_of_le, BitVec.extractLsb'_append_eq_of_add_le,
    Nat.reduceSub, BitVec.extractLsb'_eq_self]

@[simp] theorem rriaHalf_bits_4_1 : (rriaHalf rx ry imm).extractLsb' 4 1 = 0#1 := by
  change @BitVec.extractLsb' (5 + 3 + 3 + 1 + 4) 4 1 (0b01000#5 ++ rx ++ ry ++ 0#1 ++ imm) = _
  simp (disch := omega) only [BitVec.extractLsb'_append_eq_of_le, BitVec.extractLsb'_append_eq_of_add_le,
    Nat.reduceSub, BitVec.extractLsb'_eq_self]

@[simp] theorem rriaHalf_bits_0_4 : (rriaHalf rx ry imm).extractLsb' 0 4 = imm := by
  change @BitVec.extractLsb' (5 + 3 + 3 + 1 + 4) 0 4 (0b01000#5 ++ rx ++ ry ++ 0#1 ++ imm) = _
  simp (disch := omega) only [BitVec.extractLsb'_append_eq_of_le, BitVec.extractLsb'_append_eq_of_add_le,
    Nat.reduceSub, BitVec.extractLsb'_eq_self]

@[simp] theorem rriaHalf_bits_5_3 : (rriaHalf rx ry imm).extractLsb' 5 3 = ry := by
  change @BitVec.extractLsb' (5 + 3 + 3 + 1 + 4) 5 3 (0b01000#5 ++ rx ++ ry ++ 0#1 ++ imm) = _
  simp (disch := omega) only [BitVec.extractLsb'_append_eq_of_le, BitVec.extractLsb'_append_eq_of_add_le,
    Nat.reduceSub, BitVec.extractLsb'_eq_self]

@[simp] theorem rriaHalf_bits_0_3 : (rriaHalf rx ry imm).extractLsb' 0 3 = (imm).extractLsb' 0 3 := by
  change @BitVec.extractLsb' (5 + 3 + 3 + 1 + 4) 0 3 (0b01000#5 ++ rx ++ ry ++ 0#1 ++ imm) = _
  simp (disch := omega) only [BitVec.extractLsb'_append_eq_of_le, BitVec.extractLsb'_append_eq_of_add_le,
    Nat.reduceSub, BitVec.extractLsb'_eq_self]

@[simp] theorem rriaHalf_bits_10_1 : (rriaHalf rx ry imm).extractLsb' 10 1 = (rx).extractLsb' 2 1 := by
  change @BitVec.extractLsb' (5 + 3 + 3 + 1 + 4) 10 1 (0b01000#5 ++ rx ++ ry ++ 0#1 ++ imm) = _
  simp (disch := omega) only [BitVec.extractLsb'_append_eq_of_le, BitVec.extractLsb'_append_eq_of_add_le,
    Nat.reduceSub, BitVec.extractLsb'_eq_self]

@[simp] theorem rriaHalf_bits_11_5 : (rriaHalf rx ry imm).extractLsb' 11 5 = 0b01000#5 := by
  change @BitVec.extractLsb' (5 + 3 + 3 + 1 + 4) 11 5 (0b01000#5 ++ rx ++ ry ++ 0#1 ++ imm) = _
  simp (disch := omega) only [BitVec.extractLsb'_append_eq_of_le, BitVec.extractLsb'_append_eq_of_add_le,
    Nat.reduceSub, BitVec.extractLsb'_eq_self]

end rriaHalf

section mov32rHalf
variable (r32 : Reg) (rz : Reg3)

@[simp] theorem mov32rHalf_op16Field : op16Field (mov32rHalf r32 rz) = 0b01100#5 := by
  change @BitVec.extractLsb' (5 + 3 + 3 + 2 + 3) 11 5 (0b01100#5 ++ 0b101#3 ++ r32.extractLsb' 0 3 ++ r32.extractLsb' 3 2 ++ rz) = _
  simp (disch := omega) only [BitVec.extractLsb'_append_eq_of_le, BitVec.extractLsb'_append_eq_of_add_le,
    Nat.reduceSub, BitVec.extractLsb'_eq_self]

@[simp] theorem mov32rHalf_rxField : rxField (mov32rHalf r32 rz) = 0b101#3 := by
  change @BitVec.extractLsb' (5 + 3 + 3 + 2 + 3) 8 3 (0b01100#5 ++ 0b101#3 ++ r32.extractLsb' 0 3 ++ r32.extractLsb' 3 2 ++ rz) = _
  simp (disch := omega) only [BitVec.extractLsb'_append_eq_of_le, BitVec.extractLsb'_append_eq_of_add_le,
    Nat.reduceSub, BitVec.extractLsb'_eq_self]

@[simp] theorem mov32rHalf_ryField : ryField (mov32rHalf r32 rz) = r32.extractLsb' 0 3 := by
  change @BitVec.extractLsb' (5 + 3 + 3 + 2 + 3) 5 3 (0b01100#5 ++ 0b101#3 ++ r32.extractLsb' 0 3 ++ r32.extractLsb' 3 2 ++ rz) = _
  simp (disch := omega) only [BitVec.extractLsb'_append_eq_of_le, BitVec.extractLsb'_append_eq_of_add_le,
    Nat.reduceSub, BitVec.extractLsb'_eq_self]

@[simp] theorem mov32rHalf_bits_0_2 : (mov32rHalf r32 rz).extractLsb' 0 2 = (rz).extractLsb' 0 2 := by
  change @BitVec.extractLsb' (5 + 3 + 3 + 2 + 3) 0 2 (0b01100#5 ++ 0b101#3 ++ r32.extractLsb' 0 3 ++ r32.extractLsb' 3 2 ++ rz) = _
  simp (disch := omega) only [BitVec.extractLsb'_append_eq_of_le, BitVec.extractLsb'_append_eq_of_add_le,
    Nat.reduceSub, BitVec.extractLsb'_eq_self]

@[simp] theorem mov32rHalf_bits_3_2 : (mov32rHalf r32 rz).extractLsb' 3 2 = r32.extractLsb' 3 2 := by
  change @BitVec.extractLsb' (5 + 3 + 3 + 2 + 3) 3 2 (0b01100#5 ++ 0b101#3 ++ r32.extractLsb' 0 3 ++ r32.extractLsb' 3 2 ++ rz) = _
  simp (disch := omega) only [BitVec.extractLsb'_append_eq_of_le, BitVec.extractLsb'_append_eq_of_add_le,
    Nat.reduceSub, BitVec.extractLsb'_eq_self]

@[simp] theorem mov32rHalf_bits_5_3 : (mov32rHalf r32 rz).extractLsb' 5 3 = r32.extractLsb' 0 3 := by
  change @BitVec.extractLsb' (5 + 3 + 3 + 2 + 3) 5 3 (0b01100#5 ++ 0b101#3 ++ r32.extractLsb' 0 3 ++ r32.extractLsb' 3 2 ++ rz) = _
  simp (disch := omega) only [BitVec.extractLsb'_append_eq_of_le, BitVec.extractLsb'_append_eq_of_add_le,
    Nat.reduceSub, BitVec.extractLsb'_eq_self]

@[simp] theorem mov32rHalf_bits_0_3 : (mov32rHalf r32 rz).extractLsb' 0 3 = rz := by
  change @BitVec.extractLsb' (5 + 3 + 3 + 2 + 3) 0 3 (0b01100#5 ++ 0b101#3 ++ r32.extractLsb' 0 3 ++ r32.extractLsb' 3 2 ++ rz) = _
  simp (disch := omega) only [BitVec.extractLsb'_append_eq_of_le, BitVec.extractLsb'_append_eq_of_add_le,
    Nat.reduceSub, BitVec.extractLsb'_eq_self]

@[simp] theorem mov32rHalf_bits_11_5 : (mov32rHalf r32 rz).extractLsb' 11 5 = 0b01100#5 := by
  change @BitVec.extractLsb' (5 + 3 + 3 + 2 + 3) 11 5 (0b01100#5 ++ 0b101#3 ++ r32.extractLsb' 0 3 ++ r32.extractLsb' 3 2 ++ rz) = _
  simp (disch := omega) only [BitVec.extractLsb'_append_eq_of_le, BitVec.extractLsb'_append_eq_of_add_le,
    Nat.reduceSub, BitVec.extractLsb'_eq_self]

end mov32rHalf

section iHalf
variable (op : BitVec 5) (imm : BitVec 11)

@[simp] theorem iHalf_op16Field : op16Field (iHalf op imm) = op := by
  change @BitVec.extractLsb' (5 + 11) 11 5 (op ++ imm) = _
  simp (disch := omega) only [BitVec.extractLsb'_append_eq_of_le, BitVec.extractLsb'_append_eq_of_add_le,
    Nat.reduceSub, BitVec.extractLsb'_eq_self]

@[simp] theorem iHalf_rxField : rxField (iHalf op imm) = (imm).extractLsb' 8 3 := by
  change @BitVec.extractLsb' (5 + 11) 8 3 (op ++ imm) = _
  simp (disch := omega) only [BitVec.extractLsb'_append_eq_of_le, BitVec.extractLsb'_append_eq_of_add_le,
    Nat.reduceSub, BitVec.extractLsb'_eq_self]

@[simp] theorem iHalf_ryField : ryField (iHalf op imm) = (imm).extractLsb' 5 3 := by
  change @BitVec.extractLsb' (5 + 11) 5 3 (op ++ imm) = _
  simp (disch := omega) only [BitVec.extractLsb'_append_eq_of_le, BitVec.extractLsb'_append_eq_of_add_le,
    Nat.reduceSub, BitVec.extractLsb'_eq_self]

@[simp] theorem iHalf_rzField : rzField (iHalf op imm) = (imm).extractLsb' 2 3 := by
  change @BitVec.extractLsb' (5 + 11) 2 3 (op ++ imm) = _
  simp (disch := omega) only [BitVec.extractLsb'_append_eq_of_le, BitVec.extractLsb'_append_eq_of_add_le,
    Nat.reduceSub, BitVec.extractLsb'_eq_self]

@[simp] theorem iHalf_imm8Field : imm8Field (iHalf op imm) = (imm).extractLsb' 0 8 := by
  change @BitVec.extractLsb' (5 + 11) 0 8 (op ++ imm) = _
  simp (disch := omega) only [BitVec.extractLsb'_append_eq_of_le, BitVec.extractLsb'_append_eq_of_add_le,
    Nat.reduceSub, BitVec.extractLsb'_eq_self]

@[simp] theorem iHalf_imm5Field : imm5Field (iHalf op imm) = (imm).extractLsb' 0 5 := by
  change @BitVec.extractLsb' (5 + 11) 0 5 (op ++ imm) = _
  simp (disch := omega) only [BitVec.extractLsb'_append_eq_of_le, BitVec.extractLsb'_append_eq_of_add_le,
    Nat.reduceSub, BitVec.extractLsb'_eq_self]

@[simp] theorem iHalf_code6Field : code6Field (iHalf op imm) = (imm).extractLsb' 5 6 := by
  change @BitVec.extractLsb' (5 + 11) 5 6 (op ++ imm) = _
  simp (disch := omega) only [BitVec.extractLsb'_append_eq_of_le, BitVec.extractLsb'_append_eq_of_add_le,
    Nat.reduceSub, BitVec.extractLsb'_eq_self]

@[simp] theorem iHalf_bits_0_2 : (iHalf op imm).extractLsb' 0 2 = (imm).extractLsb' 0 2 := by
  change @BitVec.extractLsb' (5 + 11) 0 2 (op ++ imm) = _
  simp (disch := omega) only [BitVec.extractLsb'_append_eq_of_le, BitVec.extractLsb'_append_eq_of_add_le,
    Nat.reduceSub, BitVec.extractLsb'_eq_self]

@[simp] theorem iHalf_bits_4_1 : (iHalf op imm).extractLsb' 4 1 = (imm).extractLsb' 4 1 := by
  change @BitVec.extractLsb' (5 + 11) 4 1 (op ++ imm) = _
  simp (disch := omega) only [BitVec.extractLsb'_append_eq_of_le, BitVec.extractLsb'_append_eq_of_add_le,
    Nat.reduceSub, BitVec.extractLsb'_eq_self]

@[simp] theorem iHalf_bits_0_4 : (iHalf op imm).extractLsb' 0 4 = (imm).extractLsb' 0 4 := by
  change @BitVec.extractLsb' (5 + 11) 0 4 (op ++ imm) = _
  simp (disch := omega) only [BitVec.extractLsb'_append_eq_of_le, BitVec.extractLsb'_append_eq_of_add_le,
    Nat.reduceSub, BitVec.extractLsb'_eq_self]

@[simp] theorem iHalf_bits_0_11 : (iHalf op imm).extractLsb' 0 11 = imm := by
  change @BitVec.extractLsb' (5 + 11) 0 11 (op ++ imm) = _
  simp (disch := omega) only [BitVec.extractLsb'_append_eq_of_le, BitVec.extractLsb'_append_eq_of_add_le,
    Nat.reduceSub, BitVec.extractLsb'_eq_self]

@[simp] theorem iHalf_bits_3_2 : (iHalf op imm).extractLsb' 3 2 = (imm).extractLsb' 3 2 := by
  change @BitVec.extractLsb' (5 + 11) 3 2 (op ++ imm) = _
  simp (disch := omega) only [BitVec.extractLsb'_append_eq_of_le, BitVec.extractLsb'_append_eq_of_add_le,
    Nat.reduceSub, BitVec.extractLsb'_eq_self]

@[simp] theorem iHalf_bits_5_3 : (iHalf op imm).extractLsb' 5 3 = (imm).extractLsb' 5 3 := by
  change @BitVec.extractLsb' (5 + 11) 5 3 (op ++ imm) = _
  simp (disch := omega) only [BitVec.extractLsb'_append_eq_of_le, BitVec.extractLsb'_append_eq_of_add_le,
    Nat.reduceSub, BitVec.extractLsb'_eq_self]

@[simp] theorem iHalf_bits_0_3 : (iHalf op imm).extractLsb' 0 3 = (imm).extractLsb' 0 3 := by
  change @BitVec.extractLsb' (5 + 11) 0 3 (op ++ imm) = _
  simp (disch := omega) only [BitVec.extractLsb'_append_eq_of_le, BitVec.extractLsb'_append_eq_of_add_le,
    Nat.reduceSub, BitVec.extractLsb'_eq_self]

@[simp] theorem iHalf_bits_10_1 : (iHalf op imm).extractLsb' 10 1 = (imm).extractLsb' 10 1 := by
  change @BitVec.extractLsb' (5 + 11) 10 1 (op ++ imm) = _
  simp (disch := omega) only [BitVec.extractLsb'_append_eq_of_le, BitVec.extractLsb'_append_eq_of_add_le,
    Nat.reduceSub, BitVec.extractLsb'_eq_self]

@[simp] theorem iHalf_bits_0_5 : (iHalf op imm).extractLsb' 0 5 = (imm).extractLsb' 0 5 := by
  change @BitVec.extractLsb' (5 + 11) 0 5 (op ++ imm) = _
  simp (disch := omega) only [BitVec.extractLsb'_append_eq_of_le, BitVec.extractLsb'_append_eq_of_add_le,
    Nat.reduceSub, BitVec.extractLsb'_eq_self]

@[simp] theorem iHalf_bits_5_6 : (iHalf op imm).extractLsb' 5 6 = (imm).extractLsb' 5 6 := by
  change @BitVec.extractLsb' (5 + 11) 5 6 (op ++ imm) = _
  simp (disch := omega) only [BitVec.extractLsb'_append_eq_of_le, BitVec.extractLsb'_append_eq_of_add_le,
    Nat.reduceSub, BitVec.extractLsb'_eq_self]

@[simp] theorem iHalf_bits_4_7 : (iHalf op imm).extractLsb' 4 7 = (imm).extractLsb' 4 7 := by
  change @BitVec.extractLsb' (5 + 11) 4 7 (op ++ imm) = _
  simp (disch := omega) only [BitVec.extractLsb'_append_eq_of_le, BitVec.extractLsb'_append_eq_of_add_le,
    Nat.reduceSub, BitVec.extractLsb'_eq_self]

@[simp] theorem iHalf_bits_6_5 : (iHalf op imm).extractLsb' 6 5 = (imm).extractLsb' 6 5 := by
  change @BitVec.extractLsb' (5 + 11) 6 5 (op ++ imm) = _
  simp (disch := omega) only [BitVec.extractLsb'_append_eq_of_le, BitVec.extractLsb'_append_eq_of_add_le,
    Nat.reduceSub, BitVec.extractLsb'_eq_self]

@[simp] theorem iHalf_bits_0_6 : (iHalf op imm).extractLsb' 0 6 = (imm).extractLsb' 0 6 := by
  change @BitVec.extractLsb' (5 + 11) 0 6 (op ++ imm) = _
  simp (disch := omega) only [BitVec.extractLsb'_append_eq_of_le, BitVec.extractLsb'_append_eq_of_add_le,
    Nat.reduceSub, BitVec.extractLsb'_eq_self]

@[simp] theorem iHalf_bits_5_5 : (iHalf op imm).extractLsb' 5 5 = (imm).extractLsb' 5 5 := by
  change @BitVec.extractLsb' (5 + 11) 5 5 (op ++ imm) = _
  simp (disch := omega) only [BitVec.extractLsb'_append_eq_of_le, BitVec.extractLsb'_append_eq_of_add_le,
    Nat.reduceSub, BitVec.extractLsb'_eq_self]

@[simp] theorem iHalf_bits_11_5 : (iHalf op imm).extractLsb' 11 5 = op := by
  change @BitVec.extractLsb' (5 + 11) 11 5 (op ++ imm) = _
  simp (disch := omega) only [BitVec.extractLsb'_append_eq_of_le, BitVec.extractLsb'_append_eq_of_add_le,
    Nat.reduceSub, BitVec.extractLsb'_eq_self]

end iHalf

section code6Half
variable (code : BitVec 6) (f : BitVec 5)

@[simp] theorem code6Half_op16Field : op16Field (code6Half code f) = 0b11101#5 := by
  change @BitVec.extractLsb' (5 + 6 + 5) 11 5 (0b11101#5 ++ code ++ f) = _
  simp (disch := omega) only [BitVec.extractLsb'_append_eq_of_le, BitVec.extractLsb'_append_eq_of_add_le,
    Nat.reduceSub, BitVec.extractLsb'_eq_self]

@[simp] theorem code6Half_rxField : rxField (code6Half code f) = (code).extractLsb' 3 3 := by
  change @BitVec.extractLsb' (5 + 6 + 5) 8 3 (0b11101#5 ++ code ++ f) = _
  simp (disch := omega) only [BitVec.extractLsb'_append_eq_of_le, BitVec.extractLsb'_append_eq_of_add_le,
    Nat.reduceSub, BitVec.extractLsb'_eq_self]

@[simp] theorem code6Half_ryField : ryField (code6Half code f) = (code).extractLsb' 0 3 := by
  change @BitVec.extractLsb' (5 + 6 + 5) 5 3 (0b11101#5 ++ code ++ f) = _
  simp (disch := omega) only [BitVec.extractLsb'_append_eq_of_le, BitVec.extractLsb'_append_eq_of_add_le,
    Nat.reduceSub, BitVec.extractLsb'_eq_self]

@[simp] theorem code6Half_rzField : rzField (code6Half code f) = (f).extractLsb' 2 3 := by
  change @BitVec.extractLsb' (5 + 6 + 5) 2 3 (0b11101#5 ++ code ++ f) = _
  simp (disch := omega) only [BitVec.extractLsb'_append_eq_of_le, BitVec.extractLsb'_append_eq_of_add_le,
    Nat.reduceSub, BitVec.extractLsb'_eq_self]

@[simp] theorem code6Half_imm5Field : imm5Field (code6Half code f) = f := by
  change @BitVec.extractLsb' (5 + 6 + 5) 0 5 (0b11101#5 ++ code ++ f) = _
  simp (disch := omega) only [BitVec.extractLsb'_append_eq_of_le, BitVec.extractLsb'_append_eq_of_add_le,
    Nat.reduceSub, BitVec.extractLsb'_eq_self]

@[simp] theorem code6Half_code6Field : code6Field (code6Half code f) = code := by
  change @BitVec.extractLsb' (5 + 6 + 5) 5 6 (0b11101#5 ++ code ++ f) = _
  simp (disch := omega) only [BitVec.extractLsb'_append_eq_of_le, BitVec.extractLsb'_append_eq_of_add_le,
    Nat.reduceSub, BitVec.extractLsb'_eq_self]

@[simp] theorem code6Half_bits_0_2 : (code6Half code f).extractLsb' 0 2 = (f).extractLsb' 0 2 := by
  change @BitVec.extractLsb' (5 + 6 + 5) 0 2 (0b11101#5 ++ code ++ f) = _
  simp (disch := omega) only [BitVec.extractLsb'_append_eq_of_le, BitVec.extractLsb'_append_eq_of_add_le,
    Nat.reduceSub, BitVec.extractLsb'_eq_self]

@[simp] theorem code6Half_bits_4_1 : (code6Half code f).extractLsb' 4 1 = (f).extractLsb' 4 1 := by
  change @BitVec.extractLsb' (5 + 6 + 5) 4 1 (0b11101#5 ++ code ++ f) = _
  simp (disch := omega) only [BitVec.extractLsb'_append_eq_of_le, BitVec.extractLsb'_append_eq_of_add_le,
    Nat.reduceSub, BitVec.extractLsb'_eq_self]

@[simp] theorem code6Half_bits_0_4 : (code6Half code f).extractLsb' 0 4 = (f).extractLsb' 0 4 := by
  change @BitVec.extractLsb' (5 + 6 + 5) 0 4 (0b11101#5 ++ code ++ f) = _
  simp (disch := omega) only [BitVec.extractLsb'_append_eq_of_le, BitVec.extractLsb'_append_eq_of_add_le,
    Nat.reduceSub, BitVec.extractLsb'_eq_self]

@[simp] theorem code6Half_bits_3_2 : (code6Half code f).extractLsb' 3 2 = (f).extractLsb' 3 2 := by
  change @BitVec.extractLsb' (5 + 6 + 5) 3 2 (0b11101#5 ++ code ++ f) = _
  simp (disch := omega) only [BitVec.extractLsb'_append_eq_of_le, BitVec.extractLsb'_append_eq_of_add_le,
    Nat.reduceSub, BitVec.extractLsb'_eq_self]

@[simp] theorem code6Half_bits_5_3 : (code6Half code f).extractLsb' 5 3 = (code).extractLsb' 0 3 := by
  change @BitVec.extractLsb' (5 + 6 + 5) 5 3 (0b11101#5 ++ code ++ f) = _
  simp (disch := omega) only [BitVec.extractLsb'_append_eq_of_le, BitVec.extractLsb'_append_eq_of_add_le,
    Nat.reduceSub, BitVec.extractLsb'_eq_self]

@[simp] theorem code6Half_bits_0_3 : (code6Half code f).extractLsb' 0 3 = (f).extractLsb' 0 3 := by
  change @BitVec.extractLsb' (5 + 6 + 5) 0 3 (0b11101#5 ++ code ++ f) = _
  simp (disch := omega) only [BitVec.extractLsb'_append_eq_of_le, BitVec.extractLsb'_append_eq_of_add_le,
    Nat.reduceSub, BitVec.extractLsb'_eq_self]

@[simp] theorem code6Half_bits_10_1 : (code6Half code f).extractLsb' 10 1 = (code).extractLsb' 5 1 := by
  change @BitVec.extractLsb' (5 + 6 + 5) 10 1 (0b11101#5 ++ code ++ f) = _
  simp (disch := omega) only [BitVec.extractLsb'_append_eq_of_le, BitVec.extractLsb'_append_eq_of_add_le,
    Nat.reduceSub, BitVec.extractLsb'_eq_self]

@[simp] theorem code6Half_bits_0_5 : (code6Half code f).extractLsb' 0 5 = f := by
  change @BitVec.extractLsb' (5 + 6 + 5) 0 5 (0b11101#5 ++ code ++ f) = _
  simp (disch := omega) only [BitVec.extractLsb'_append_eq_of_le, BitVec.extractLsb'_append_eq_of_add_le,
    Nat.reduceSub, BitVec.extractLsb'_eq_self]

@[simp] theorem code6Half_bits_5_6 : (code6Half code f).extractLsb' 5 6 = code := by
  change @BitVec.extractLsb' (5 + 6 + 5) 5 6 (0b11101#5 ++ code ++ f) = _
  simp (disch := omega) only [BitVec.extractLsb'_append_eq_of_le, BitVec.extractLsb'_append_eq_of_add_le,
    Nat.reduceSub, BitVec.extractLsb'_eq_self]

@[simp] theorem code6Half_bits_6_5 : (code6Half code f).extractLsb' 6 5 = (code).extractLsb' 1 5 := by
  change @BitVec.extractLsb' (5 + 6 + 5) 6 5 (0b11101#5 ++ code ++ f) = _
  simp (disch := omega) only [BitVec.extractLsb'_append_eq_of_le, BitVec.extractLsb'_append_eq_of_add_le,
    Nat.reduceSub, BitVec.extractLsb'_eq_self]

@[simp] theorem code6Half_bits_5_5 : (code6Half code f).extractLsb' 5 5 = (code).extractLsb' 0 5 := by
  change @BitVec.extractLsb' (5 + 6 + 5) 5 5 (0b11101#5 ++ code ++ f) = _
  simp (disch := omega) only [BitVec.extractLsb'_append_eq_of_le, BitVec.extractLsb'_append_eq_of_add_le,
    Nat.reduceSub, BitVec.extractLsb'_eq_self]

@[simp] theorem code6Half_bits_11_5 : (code6Half code f).extractLsb' 11 5 = 0b11101#5 := by
  change @BitVec.extractLsb' (5 + 6 + 5) 11 5 (0b11101#5 ++ code ++ f) = _
  simp (disch := omega) only [BitVec.extractLsb'_append_eq_of_le, BitVec.extractLsb'_append_eq_of_add_le,
    Nat.reduceSub, BitVec.extractLsb'_eq_self]

end code6Half

section extHalf
variable (imm : BitVec 16)

@[simp] theorem extHalf_op16Field : op16Field (extHalf imm) = 0b11110#5 := by
  change @BitVec.extractLsb' (5 + 6 + 5) 11 5 (0b11110#5 ++ imm.extractLsb' 5 6 ++ imm.extractLsb' 11 5) = _
  simp (disch := omega) only [BitVec.extractLsb'_append_eq_of_le, BitVec.extractLsb'_append_eq_of_add_le,
    Nat.reduceSub, BitVec.extractLsb'_eq_self]

@[simp] theorem extHalf_rxField : rxField (extHalf imm) = (imm.extractLsb' 5 6).extractLsb' 3 3 := by
  change @BitVec.extractLsb' (5 + 6 + 5) 8 3 (0b11110#5 ++ imm.extractLsb' 5 6 ++ imm.extractLsb' 11 5) = _
  simp (disch := omega) only [BitVec.extractLsb'_append_eq_of_le, BitVec.extractLsb'_append_eq_of_add_le,
    Nat.reduceSub, BitVec.extractLsb'_eq_self]

@[simp] theorem extHalf_ryField : ryField (extHalf imm) = (imm.extractLsb' 5 6).extractLsb' 0 3 := by
  change @BitVec.extractLsb' (5 + 6 + 5) 5 3 (0b11110#5 ++ imm.extractLsb' 5 6 ++ imm.extractLsb' 11 5) = _
  simp (disch := omega) only [BitVec.extractLsb'_append_eq_of_le, BitVec.extractLsb'_append_eq_of_add_le,
    Nat.reduceSub, BitVec.extractLsb'_eq_self]

@[simp] theorem extHalf_rzField : rzField (extHalf imm) = (imm.extractLsb' 11 5).extractLsb' 2 3 := by
  change @BitVec.extractLsb' (5 + 6 + 5) 2 3 (0b11110#5 ++ imm.extractLsb' 5 6 ++ imm.extractLsb' 11 5) = _
  simp (disch := omega) only [BitVec.extractLsb'_append_eq_of_le, BitVec.extractLsb'_append_eq_of_add_le,
    Nat.reduceSub, BitVec.extractLsb'_eq_self]

@[simp] theorem extHalf_imm5Field : imm5Field (extHalf imm) = imm.extractLsb' 11 5 := by
  change @BitVec.extractLsb' (5 + 6 + 5) 0 5 (0b11110#5 ++ imm.extractLsb' 5 6 ++ imm.extractLsb' 11 5) = _
  simp (disch := omega) only [BitVec.extractLsb'_append_eq_of_le, BitVec.extractLsb'_append_eq_of_add_le,
    Nat.reduceSub, BitVec.extractLsb'_eq_self]

@[simp] theorem extHalf_code6Field : code6Field (extHalf imm) = imm.extractLsb' 5 6 := by
  change @BitVec.extractLsb' (5 + 6 + 5) 5 6 (0b11110#5 ++ imm.extractLsb' 5 6 ++ imm.extractLsb' 11 5) = _
  simp (disch := omega) only [BitVec.extractLsb'_append_eq_of_le, BitVec.extractLsb'_append_eq_of_add_le,
    Nat.reduceSub, BitVec.extractLsb'_eq_self]

@[simp] theorem extHalf_bits_0_5 : (extHalf imm).extractLsb' 0 5 = imm.extractLsb' 11 5 := by
  change @BitVec.extractLsb' (5 + 6 + 5) 0 5 (0b11110#5 ++ imm.extractLsb' 5 6 ++ imm.extractLsb' 11 5) = _
  simp (disch := omega) only [BitVec.extractLsb'_append_eq_of_le, BitVec.extractLsb'_append_eq_of_add_le,
    Nat.reduceSub, BitVec.extractLsb'_eq_self]

@[simp] theorem extHalf_bits_5_6 : (extHalf imm).extractLsb' 5 6 = imm.extractLsb' 5 6 := by
  change @BitVec.extractLsb' (5 + 6 + 5) 5 6 (0b11110#5 ++ imm.extractLsb' 5 6 ++ imm.extractLsb' 11 5) = _
  simp (disch := omega) only [BitVec.extractLsb'_append_eq_of_le, BitVec.extractLsb'_append_eq_of_add_le,
    Nat.reduceSub, BitVec.extractLsb'_eq_self]

@[simp] theorem extHalf_bits_11_5 : (extHalf imm).extractLsb' 11 5 = 0b11110#5 := by
  change @BitVec.extractLsb' (5 + 6 + 5) 11 5 (0b11110#5 ++ imm.extractLsb' 5 6 ++ imm.extractLsb' 11 5) = _
  simp (disch := omega) only [BitVec.extractLsb'_append_eq_of_le, BitVec.extractLsb'_append_eq_of_add_le,
    Nat.reduceSub, BitVec.extractLsb'_eq_self]

end extHalf

section extAHalf
variable (imm : BitVec 15)

@[simp] theorem extAHalf_op16Field : op16Field (extAHalf imm) = 0b11110#5 := by
  change @BitVec.extractLsb' (5 + 7 + 4) 11 5 (0b11110#5 ++ imm.extractLsb' 4 7 ++ imm.extractLsb' 11 4) = _
  simp (disch := omega) only [BitVec.extractLsb'_append_eq_of_le, BitVec.extractLsb'_append_eq_of_add_le,
    Nat.reduceSub, BitVec.extractLsb'_eq_self]

@[simp] theorem extAHalf_rxField : rxField (extAHalf imm) = (imm.extractLsb' 4 7).extractLsb' 4 3 := by
  change @BitVec.extractLsb' (5 + 7 + 4) 8 3 (0b11110#5 ++ imm.extractLsb' 4 7 ++ imm.extractLsb' 11 4) = _
  simp (disch := omega) only [BitVec.extractLsb'_append_eq_of_le, BitVec.extractLsb'_append_eq_of_add_le,
    Nat.reduceSub, BitVec.extractLsb'_eq_self]

@[simp] theorem extAHalf_ryField : ryField (extAHalf imm) = (imm.extractLsb' 4 7).extractLsb' 1 3 := by
  change @BitVec.extractLsb' (5 + 7 + 4) 5 3 (0b11110#5 ++ imm.extractLsb' 4 7 ++ imm.extractLsb' 11 4) = _
  simp (disch := omega) only [BitVec.extractLsb'_append_eq_of_le, BitVec.extractLsb'_append_eq_of_add_le,
    Nat.reduceSub, BitVec.extractLsb'_eq_self]

@[simp] theorem extAHalf_code6Field : code6Field (extAHalf imm) = (imm.extractLsb' 4 7).extractLsb' 1 6 := by
  change @BitVec.extractLsb' (5 + 7 + 4) 5 6 (0b11110#5 ++ imm.extractLsb' 4 7 ++ imm.extractLsb' 11 4) = _
  simp (disch := omega) only [BitVec.extractLsb'_append_eq_of_le, BitVec.extractLsb'_append_eq_of_add_le,
    Nat.reduceSub, BitVec.extractLsb'_eq_self]

@[simp] theorem extAHalf_bits_0_4 : (extAHalf imm).extractLsb' 0 4 = imm.extractLsb' 11 4 := by
  change @BitVec.extractLsb' (5 + 7 + 4) 0 4 (0b11110#5 ++ imm.extractLsb' 4 7 ++ imm.extractLsb' 11 4) = _
  simp (disch := omega) only [BitVec.extractLsb'_append_eq_of_le, BitVec.extractLsb'_append_eq_of_add_le,
    Nat.reduceSub, BitVec.extractLsb'_eq_self]

@[simp] theorem extAHalf_bits_4_7 : (extAHalf imm).extractLsb' 4 7 = imm.extractLsb' 4 7 := by
  change @BitVec.extractLsb' (5 + 7 + 4) 4 7 (0b11110#5 ++ imm.extractLsb' 4 7 ++ imm.extractLsb' 11 4) = _
  simp (disch := omega) only [BitVec.extractLsb'_append_eq_of_le, BitVec.extractLsb'_append_eq_of_add_le,
    Nat.reduceSub, BitVec.extractLsb'_eq_self]

@[simp] theorem extAHalf_bits_11_5 : (extAHalf imm).extractLsb' 11 5 = 0b11110#5 := by
  change @BitVec.extractLsb' (5 + 7 + 4) 11 5 (0b11110#5 ++ imm.extractLsb' 4 7 ++ imm.extractLsb' 11 4) = _
  simp (disch := omega) only [BitVec.extractLsb'_append_eq_of_le, BitVec.extractLsb'_append_eq_of_add_le,
    Nat.reduceSub, BitVec.extractLsb'_eq_self]

end extAHalf

section extShiftHalf
variable (sa : BitVec 5)

@[simp] theorem extShiftHalf_op16Field : op16Field (extShiftHalf sa) = 0b11110#5 := by
  change @BitVec.extractLsb' (5 + 5 + 6) 11 5 (0b11110#5 ++ sa ++ 0#6) = _
  simp (disch := omega) only [BitVec.extractLsb'_append_eq_of_le, BitVec.extractLsb'_append_eq_of_add_le,
    Nat.reduceSub, BitVec.extractLsb'_eq_self]

@[simp] theorem extShiftHalf_rxField : rxField (extShiftHalf sa) = (sa).extractLsb' 2 3 := by
  change @BitVec.extractLsb' (5 + 5 + 6) 8 3 (0b11110#5 ++ sa ++ 0#6) = _
  simp (disch := omega) only [BitVec.extractLsb'_append_eq_of_le, BitVec.extractLsb'_append_eq_of_add_le,
    Nat.reduceSub, BitVec.extractLsb'_eq_self]

@[simp] theorem extShiftHalf_rzField : rzField (extShiftHalf sa) = (0#6).extractLsb' 2 3 := by
  change @BitVec.extractLsb' (5 + 5 + 6) 2 3 (0b11110#5 ++ sa ++ 0#6) = _
  simp (disch := omega) only [BitVec.extractLsb'_append_eq_of_le, BitVec.extractLsb'_append_eq_of_add_le,
    Nat.reduceSub, BitVec.extractLsb'_eq_self]

@[simp] theorem extShiftHalf_imm5Field : imm5Field (extShiftHalf sa) = (0#6).extractLsb' 0 5 := by
  change @BitVec.extractLsb' (5 + 5 + 6) 0 5 (0b11110#5 ++ sa ++ 0#6) = _
  simp (disch := omega) only [BitVec.extractLsb'_append_eq_of_le, BitVec.extractLsb'_append_eq_of_add_le,
    Nat.reduceSub, BitVec.extractLsb'_eq_self]

@[simp] theorem extShiftHalf_bits_10_1 : (extShiftHalf sa).extractLsb' 10 1 = (sa).extractLsb' 4 1 := by
  change @BitVec.extractLsb' (5 + 5 + 6) 10 1 (0b11110#5 ++ sa ++ 0#6) = _
  simp (disch := omega) only [BitVec.extractLsb'_append_eq_of_le, BitVec.extractLsb'_append_eq_of_add_le,
    Nat.reduceSub, BitVec.extractLsb'_eq_self]

@[simp] theorem extShiftHalf_bits_6_5 : (extShiftHalf sa).extractLsb' 6 5 = sa := by
  change @BitVec.extractLsb' (5 + 5 + 6) 6 5 (0b11110#5 ++ sa ++ 0#6) = _
  simp (disch := omega) only [BitVec.extractLsb'_append_eq_of_le, BitVec.extractLsb'_append_eq_of_add_le,
    Nat.reduceSub, BitVec.extractLsb'_eq_self]

@[simp] theorem extShiftHalf_bits_0_6 : (extShiftHalf sa).extractLsb' 0 6 = 0#6 := by
  change @BitVec.extractLsb' (5 + 5 + 6) 0 6 (0b11110#5 ++ sa ++ 0#6) = _
  simp (disch := omega) only [BitVec.extractLsb'_append_eq_of_le, BitVec.extractLsb'_append_eq_of_add_le,
    Nat.reduceSub, BitVec.extractLsb'_eq_self]

@[simp] theorem extShiftHalf_bits_11_5 : (extShiftHalf sa).extractLsb' 11 5 = 0b11110#5 := by
  change @BitVec.extractLsb' (5 + 5 + 6) 11 5 (0b11110#5 ++ sa ++ 0#6) = _
  simp (disch := omega) only [BitVec.extractLsb'_append_eq_of_le, BitVec.extractLsb'_append_eq_of_add_le,
    Nat.reduceSub, BitVec.extractLsb'_eq_self]

end extShiftHalf

section jal16Half
variable (x : BitVec 1) (target : BitVec 26)

@[simp] theorem jal16Half_op16Field : op16Field (jal16Half x target) = 0b00011#5 := by
  change @BitVec.extractLsb' (5 + 1 + 5 + 5) 11 5 (0b00011#5 ++ x ++ target.extractLsb' 16 5 ++ target.extractLsb' 21 5) = _
  simp (disch := omega) only [BitVec.extractLsb'_append_eq_of_le, BitVec.extractLsb'_append_eq_of_add_le,
    Nat.reduceSub, BitVec.extractLsb'_eq_self]

@[simp] theorem jal16Half_ryField : ryField (jal16Half x target) = (target.extractLsb' 16 5).extractLsb' 0 3 := by
  change @BitVec.extractLsb' (5 + 1 + 5 + 5) 5 3 (0b00011#5 ++ x ++ target.extractLsb' 16 5 ++ target.extractLsb' 21 5) = _
  simp (disch := omega) only [BitVec.extractLsb'_append_eq_of_le, BitVec.extractLsb'_append_eq_of_add_le,
    Nat.reduceSub, BitVec.extractLsb'_eq_self]

@[simp] theorem jal16Half_rzField : rzField (jal16Half x target) = (target.extractLsb' 21 5).extractLsb' 2 3 := by
  change @BitVec.extractLsb' (5 + 1 + 5 + 5) 2 3 (0b00011#5 ++ x ++ target.extractLsb' 16 5 ++ target.extractLsb' 21 5) = _
  simp (disch := omega) only [BitVec.extractLsb'_append_eq_of_le, BitVec.extractLsb'_append_eq_of_add_le,
    Nat.reduceSub, BitVec.extractLsb'_eq_self]

@[simp] theorem jal16Half_imm5Field : imm5Field (jal16Half x target) = target.extractLsb' 21 5 := by
  change @BitVec.extractLsb' (5 + 1 + 5 + 5) 0 5 (0b00011#5 ++ x ++ target.extractLsb' 16 5 ++ target.extractLsb' 21 5) = _
  simp (disch := omega) only [BitVec.extractLsb'_append_eq_of_le, BitVec.extractLsb'_append_eq_of_add_le,
    Nat.reduceSub, BitVec.extractLsb'_eq_self]

@[simp] theorem jal16Half_bits_10_1 : (jal16Half x target).extractLsb' 10 1 = x := by
  change @BitVec.extractLsb' (5 + 1 + 5 + 5) 10 1 (0b00011#5 ++ x ++ target.extractLsb' 16 5 ++ target.extractLsb' 21 5) = _
  simp (disch := omega) only [BitVec.extractLsb'_append_eq_of_le, BitVec.extractLsb'_append_eq_of_add_le,
    Nat.reduceSub, BitVec.extractLsb'_eq_self]

@[simp] theorem jal16Half_bits_0_5 : (jal16Half x target).extractLsb' 0 5 = target.extractLsb' 21 5 := by
  change @BitVec.extractLsb' (5 + 1 + 5 + 5) 0 5 (0b00011#5 ++ x ++ target.extractLsb' 16 5 ++ target.extractLsb' 21 5) = _
  simp (disch := omega) only [BitVec.extractLsb'_append_eq_of_le, BitVec.extractLsb'_append_eq_of_add_le,
    Nat.reduceSub, BitVec.extractLsb'_eq_self]

@[simp] theorem jal16Half_bits_5_5 : (jal16Half x target).extractLsb' 5 5 = target.extractLsb' 16 5 := by
  change @BitVec.extractLsb' (5 + 1 + 5 + 5) 5 5 (0b00011#5 ++ x ++ target.extractLsb' 16 5 ++ target.extractLsb' 21 5) = _
  simp (disch := omega) only [BitVec.extractLsb'_append_eq_of_le, BitVec.extractLsb'_append_eq_of_add_le,
    Nat.reduceSub, BitVec.extractLsb'_eq_self]

@[simp] theorem jal16Half_bits_11_5 : (jal16Half x target).extractLsb' 11 5 = 0b00011#5 := by
  change @BitVec.extractLsb' (5 + 1 + 5 + 5) 11 5 (0b00011#5 ++ x ++ target.extractLsb' 16 5 ++ target.extractLsb' 21 5) = _
  simp (disch := omega) only [BitVec.extractLsb'_append_eq_of_le, BitVec.extractLsb'_append_eq_of_add_le,
    Nat.reduceSub, BitVec.extractLsb'_eq_self]

end jal16Half

end Sys2Proof
end

