-- ==== Sys2Proof/Laws/PerInstr.lean ====
section
/-! SUPPORT. The family RoundTrip: the decoder reads every well-formed instruction back from its code, one lemma per
constructor. -/

set_option linter.unusedSimpArgs false
set_option Elab.async false

namespace Sys2Proof.Laws

/-- Decoding the code of a well-formed instruction gives the instruction. -/
def RoundTrip.Statement (i : Instr) : Prop := i.wf = true → decodeCode (encode i) = .instr i

/-- The four coprocessor numbers. -/
theorem copNumber_cases (z : BitVec 2) : z = 0#2 ∨ z = 1#2 ∨ z = 2#2 ∨ z = 3#2 := by
  revert z; decide

/-- A COPz word has bit 25 set. -/
theorem cofunWord_rs (z : BitVec 2) (cofun : BitVec 25) : 16 ≤ (rsField (cofunWord z cofun)).toNat := by
  have h : (rsField (cofunWord z cofun)).msb = true := by
    rw [BitVec.msb_eq_getLsbD_last]
    change (@BitVec.extractLsb' (4 + 2 + 1 + 25) 21 5 (0b0100#4 ++ z ++ 1#1 ++ cofun)).getLsbD 4 = true
    simp only [BitVec.getLsbD_extractLsb', BitVec.getLsbD_append]
    rfl
  exact BitVec.toNat_ge_of_msb_true h

/-- The coprocessor group reads a COPz word as an operation. -/
theorem decodeCop_cofunWord (z : BitVec 2) (cofun : BitVec 25) :
    decodeCop (cofunWord z cofun) = decodeCopOp (cofunWord z cofun) := by
  have h := cofunWord_rs z cofun
  unfold decodeCop
  split <;> first | omega | exact if_pos h

/-- The three pieces of a 16-bit immediate put together (30_encoding.md R140). -/
theorem join_imm16 (imm : BitVec 16) :
    (imm.extractLsb' 11 5 ++ imm.extractLsb' 5 6 ++ imm.extractLsb' 0 5 : BitVec (5 + 6 + 5)) = imm := by
  apply BitVec.eq_of_getLsbD_eq
  intro i hi
  simp only [BitVec.getLsbD_append, BitVec.getLsbD_extractLsb']
  by_cases h5 : i < 5
  · simp [h5]
  · by_cases h6 : i - 5 < 6
    · simp [h5, h6]; congr 1; omega
    · have e : 11 + (i - 5 - 6) = i := by omega
      have l : i - 5 - 6 < 5 := by omega
      simp [h5, h6, e, l]

/-- The three pieces of a 15-bit immediate put together (30_encoding.md R140). -/
theorem join_imm15 (imm : BitVec 15) :
    (imm.extractLsb' 11 4 ++ imm.extractLsb' 4 7 ++ imm.extractLsb' 0 4 : BitVec (4 + 7 + 4)) = imm := by
  apply BitVec.eq_of_getLsbD_eq
  intro i hi
  simp only [BitVec.getLsbD_append, BitVec.getLsbD_extractLsb']
  by_cases h4 : i < 4
  · simp [h4]
  · by_cases h7 : i - 4 < 7
    · simp [h4, h7]; congr 1; omega
    · have e : 11 + (i - 4 - 7) = i := by omega
      have l : i - 4 - 7 < 4 := by omega
      simp [h4, h7, e, l]

/-- The three pieces of a jump target put together (30_encoding.md R139). -/
theorem join_target (t : BitVec 26) :
    (t.extractLsb' 21 5 ++ t.extractLsb' 16 5 ++ t.extractLsb' 0 16 : BitVec (5 + 5 + 16)) = t := by
  apply BitVec.eq_of_getLsbD_eq
  intro i hi
  simp only [BitVec.getLsbD_append, BitVec.getLsbD_extractLsb']
  by_cases h16 : i < 16
  · simp [h16]
  · by_cases h5 : i - 16 < 5
    · simp [h16, h5]; congr 1; omega
    · have e : 21 + (i - 16 - 5) = i := by omega
      have l : i - 16 - 5 < 5 := by omega
      simp [h16, h5, e, l]

/-- The two pieces of a rotated register number put together (30_encoding.md R137). -/
theorem join_r32 (r : Reg) : (r.extractLsb' 3 2 ++ r.extractLsb' 0 3 : BitVec (2 + 3)) = r := by
  revert r; decide

/-- The immediate of an extended instruction comes back whole. -/
theorem extImm_extHalf (op : BitVec 5) (rx ry : Reg3) (imm : BitVec 16) :
    extImm (extHalf imm) (rriHalf op rx ry (imm.extractLsb' 0 5)) = imm := by
  unfold extImm
  rw [extHalf_bits_0_5, extHalf_bits_5_6, rriHalf_bits_0_5]
  exact join_imm16 imm

/-- Bits 10:5 of the RRI format. -/
theorem rriHalf_code6 (op : BitVec 5) (imm : BitVec 5) : code6Field (rriHalf op 0#3 0#3 imm) = 0#6 := by
  apply BitVec.eq_of_getLsbD_eq
  intro i hi
  change (@BitVec.extractLsb' (5 + 3 + 3 + 5) 5 6 (op ++ 0#3 ++ 0#3 ++ imm)).getLsbD i = _
  simp only [BitVec.getLsbD_extractLsb', BitVec.getLsbD_append, BitVec.getLsbD_zero]
  have : ¬ 5 + i < 5 := by omega
  by_cases h : i < 3
  · simp [h]
  · have : i - 3 < 3 := by omega
    simp [h, this]


/-- EXTEND before a halfword it cannot extend reads as EXTEND misused (30_encoding.md R150). -/
theorem decodeExtended_misused (imm : BitVec 11) (low : Half) (h : isExtensible low = false) :
    decodeExtended (iHalf 0b11110#5 imm) low = .instr (.extend imm low) := by
  unfold isExtensible at h
  unfold decodeExtended op16Field
  split at h <;> simp_all [rxField]
  split <;> first | omega | rfl

theorem RoundTrip.lb (base : Reg) (rt : Reg) (offset : BitVec 16) : RoundTrip.Statement (.lb base rt offset) := by
  intro _; simp [encode, decodeCode, decode32, decodeSpecial, decodeBcond, decodeMadd, Decoded.when]

theorem RoundTrip.lbu (base : Reg) (rt : Reg) (offset : BitVec 16) : RoundTrip.Statement (.lbu base rt offset) := by
  intro _; simp [encode, decodeCode, decode32, decodeSpecial, decodeBcond, decodeMadd, Decoded.when]

theorem RoundTrip.lh (base : Reg) (rt : Reg) (offset : BitVec 16) : RoundTrip.Statement (.lh base rt offset) := by
  intro _; simp [encode, decodeCode, decode32, decodeSpecial, decodeBcond, decodeMadd, Decoded.when]

theorem RoundTrip.lhu (base : Reg) (rt : Reg) (offset : BitVec 16) : RoundTrip.Statement (.lhu base rt offset) := by
  intro _; simp [encode, decodeCode, decode32, decodeSpecial, decodeBcond, decodeMadd, Decoded.when]

theorem RoundTrip.lwl (base : Reg) (rt : Reg) (offset : BitVec 16) : RoundTrip.Statement (.lwl base rt offset) := by
  intro _; simp [encode, decodeCode, decode32, decodeSpecial, decodeBcond, decodeMadd, Decoded.when]

theorem RoundTrip.lwr (base : Reg) (rt : Reg) (offset : BitVec 16) : RoundTrip.Statement (.lwr base rt offset) := by
  intro _; simp [encode, decodeCode, decode32, decodeSpecial, decodeBcond, decodeMadd, Decoded.when]

theorem RoundTrip.lw (base : Reg) (rt : Reg) (offset : BitVec 16) : RoundTrip.Statement (.lw base rt offset) := by
  intro _; simp [encode, decodeCode, decode32, decodeSpecial, decodeBcond, decodeMadd, Decoded.when]

theorem RoundTrip.sb (base : Reg) (rt : Reg) (offset : BitVec 16) : RoundTrip.Statement (.sb base rt offset) := by
  intro _; simp [encode, decodeCode, decode32, decodeSpecial, decodeBcond, decodeMadd, Decoded.when]

theorem RoundTrip.sh (base : Reg) (rt : Reg) (offset : BitVec 16) : RoundTrip.Statement (.sh base rt offset) := by
  intro _; simp [encode, decodeCode, decode32, decodeSpecial, decodeBcond, decodeMadd, Decoded.when]

theorem RoundTrip.swl (base : Reg) (rt : Reg) (offset : BitVec 16) : RoundTrip.Statement (.swl base rt offset) := by
  intro _; simp [encode, decodeCode, decode32, decodeSpecial, decodeBcond, decodeMadd, Decoded.when]

theorem RoundTrip.swr (base : Reg) (rt : Reg) (offset : BitVec 16) : RoundTrip.Statement (.swr base rt offset) := by
  intro _; simp [encode, decodeCode, decode32, decodeSpecial, decodeBcond, decodeMadd, Decoded.when]

theorem RoundTrip.sw (base : Reg) (rt : Reg) (offset : BitVec 16) : RoundTrip.Statement (.sw base rt offset) := by
  intro _; simp [encode, decodeCode, decode32, decodeSpecial, decodeBcond, decodeMadd, Decoded.when]

theorem RoundTrip.sync : RoundTrip.Statement (.sync) := by
  intro _; simp [encode, decodeCode, decode32, decodeSpecial, decodeBcond, decodeMadd, Decoded.when]

theorem RoundTrip.add (rs : Reg) (rt : Reg) (rd : Reg) : RoundTrip.Statement (.add rs rt rd) := by
  intro _; simp [encode, decodeCode, decode32, decodeSpecial, decodeBcond, decodeMadd, Decoded.when]

theorem RoundTrip.addu (rs : Reg) (rt : Reg) (rd : Reg) : RoundTrip.Statement (.addu rs rt rd) := by
  intro _; simp [encode, decodeCode, decode32, decodeSpecial, decodeBcond, decodeMadd, Decoded.when]

theorem RoundTrip.sub (rs : Reg) (rt : Reg) (rd : Reg) : RoundTrip.Statement (.sub rs rt rd) := by
  intro _; simp [encode, decodeCode, decode32, decodeSpecial, decodeBcond, decodeMadd, Decoded.when]

theorem RoundTrip.subu (rs : Reg) (rt : Reg) (rd : Reg) : RoundTrip.Statement (.subu rs rt rd) := by
  intro _; simp [encode, decodeCode, decode32, decodeSpecial, decodeBcond, decodeMadd, Decoded.when]

theorem RoundTrip.and (rs : Reg) (rt : Reg) (rd : Reg) : RoundTrip.Statement (.and rs rt rd) := by
  intro _; simp [encode, decodeCode, decode32, decodeSpecial, decodeBcond, decodeMadd, Decoded.when]

theorem RoundTrip.or (rs : Reg) (rt : Reg) (rd : Reg) : RoundTrip.Statement (.or rs rt rd) := by
  intro _; simp [encode, decodeCode, decode32, decodeSpecial, decodeBcond, decodeMadd, Decoded.when]

theorem RoundTrip.xor (rs : Reg) (rt : Reg) (rd : Reg) : RoundTrip.Statement (.xor rs rt rd) := by
  intro _; simp [encode, decodeCode, decode32, decodeSpecial, decodeBcond, decodeMadd, Decoded.when]

theorem RoundTrip.nor (rs : Reg) (rt : Reg) (rd : Reg) : RoundTrip.Statement (.nor rs rt rd) := by
  intro _; simp [encode, decodeCode, decode32, decodeSpecial, decodeBcond, decodeMadd, Decoded.when]

theorem RoundTrip.slt (rs : Reg) (rt : Reg) (rd : Reg) : RoundTrip.Statement (.slt rs rt rd) := by
  intro _; simp [encode, decodeCode, decode32, decodeSpecial, decodeBcond, decodeMadd, Decoded.when]

theorem RoundTrip.sltu (rs : Reg) (rt : Reg) (rd : Reg) : RoundTrip.Statement (.sltu rs rt rd) := by
  intro _; simp [encode, decodeCode, decode32, decodeSpecial, decodeBcond, decodeMadd, Decoded.when]

theorem RoundTrip.addi (rs : Reg) (rt : Reg) (imm : BitVec 16) : RoundTrip.Statement (.addi rs rt imm) := by
  intro _; simp [encode, decodeCode, decode32, decodeSpecial, decodeBcond, decodeMadd, Decoded.when]

theorem RoundTrip.addiu (rs : Reg) (rt : Reg) (imm : BitVec 16) : RoundTrip.Statement (.addiu rs rt imm) := by
  intro _; simp [encode, decodeCode, decode32, decodeSpecial, decodeBcond, decodeMadd, Decoded.when]

theorem RoundTrip.slti (rs : Reg) (rt : Reg) (imm : BitVec 16) : RoundTrip.Statement (.slti rs rt imm) := by
  intro _; simp [encode, decodeCode, decode32, decodeSpecial, decodeBcond, decodeMadd, Decoded.when]

theorem RoundTrip.sltiu (rs : Reg) (rt : Reg) (imm : BitVec 16) : RoundTrip.Statement (.sltiu rs rt imm) := by
  intro _; simp [encode, decodeCode, decode32, decodeSpecial, decodeBcond, decodeMadd, Decoded.when]

theorem RoundTrip.andi (rs : Reg) (rt : Reg) (imm : BitVec 16) : RoundTrip.Statement (.andi rs rt imm) := by
  intro _; simp [encode, decodeCode, decode32, decodeSpecial, decodeBcond, decodeMadd, Decoded.when]

theorem RoundTrip.ori (rs : Reg) (rt : Reg) (imm : BitVec 16) : RoundTrip.Statement (.ori rs rt imm) := by
  intro _; simp [encode, decodeCode, decode32, decodeSpecial, decodeBcond, decodeMadd, Decoded.when]

theorem RoundTrip.xori (rs : Reg) (rt : Reg) (imm : BitVec 16) : RoundTrip.Statement (.xori rs rt imm) := by
  intro _; simp [encode, decodeCode, decode32, decodeSpecial, decodeBcond, decodeMadd, Decoded.when]

theorem RoundTrip.lui (rt : Reg) (imm : BitVec 16) : RoundTrip.Statement (.lui rt imm) := by
  intro _; simp [encode, decodeCode, decode32, decodeSpecial, decodeBcond, decodeMadd, Decoded.when]

theorem RoundTrip.sll (rt : Reg) (rd : Reg) (sa : BitVec 5) : RoundTrip.Statement (.sll rt rd sa) := by
  intro _; simp [encode, decodeCode, decode32, decodeSpecial, decodeBcond, decodeMadd, Decoded.when]

theorem RoundTrip.srl (rt : Reg) (rd : Reg) (sa : BitVec 5) : RoundTrip.Statement (.srl rt rd sa) := by
  intro _; simp [encode, decodeCode, decode32, decodeSpecial, decodeBcond, decodeMadd, Decoded.when]

theorem RoundTrip.sra (rt : Reg) (rd : Reg) (sa : BitVec 5) : RoundTrip.Statement (.sra rt rd sa) := by
  intro _; simp [encode, decodeCode, decode32, decodeSpecial, decodeBcond, decodeMadd, Decoded.when]

theorem RoundTrip.sllv (rs : Reg) (rt : Reg) (rd : Reg) : RoundTrip.Statement (.sllv rs rt rd) := by
  intro _; simp [encode, decodeCode, decode32, decodeSpecial, decodeBcond, decodeMadd, Decoded.when]

theorem RoundTrip.srlv (rs : Reg) (rt : Reg) (rd : Reg) : RoundTrip.Statement (.srlv rs rt rd) := by
  intro _; simp [encode, decodeCode, decode32, decodeSpecial, decodeBcond, decodeMadd, Decoded.when]

theorem RoundTrip.srav (rs : Reg) (rt : Reg) (rd : Reg) : RoundTrip.Statement (.srav rs rt rd) := by
  intro _; simp [encode, decodeCode, decode32, decodeSpecial, decodeBcond, decodeMadd, Decoded.when]

theorem RoundTrip.mult (rs : Reg) (rt : Reg) (rd : Reg) : RoundTrip.Statement (.mult rs rt rd) := by
  intro _; simp [encode, decodeCode, decode32, decodeSpecial, decodeBcond, decodeMadd, Decoded.when]

theorem RoundTrip.multu (rs : Reg) (rt : Reg) (rd : Reg) : RoundTrip.Statement (.multu rs rt rd) := by
  intro _; simp [encode, decodeCode, decode32, decodeSpecial, decodeBcond, decodeMadd, Decoded.when]

theorem RoundTrip.div (rs : Reg) (rt : Reg) : RoundTrip.Statement (.div rs rt) := by
  intro _; simp [encode, decodeCode, decode32, decodeSpecial, decodeBcond, decodeMadd, Decoded.when]

theorem RoundTrip.divu (rs : Reg) (rt : Reg) : RoundTrip.Statement (.divu rs rt) := by
  intro _; simp [encode, decodeCode, decode32, decodeSpecial, decodeBcond, decodeMadd, Decoded.when]

theorem RoundTrip.madd (rs : Reg) (rt : Reg) (rd : Reg) : RoundTrip.Statement (.madd rs rt rd) := by
  intro _; simp [encode, decodeCode, decode32, decodeSpecial, decodeBcond, decodeMadd, Decoded.when]

theorem RoundTrip.maddu (rs : Reg) (rt : Reg) (rd : Reg) : RoundTrip.Statement (.maddu rs rt rd) := by
  intro _; simp [encode, decodeCode, decode32, decodeSpecial, decodeBcond, decodeMadd, Decoded.when]

theorem RoundTrip.mfhi (rd : Reg) : RoundTrip.Statement (.mfhi rd) := by
  intro _; simp [encode, decodeCode, decode32, decodeSpecial, decodeBcond, decodeMadd, Decoded.when]

theorem RoundTrip.mflo (rd : Reg) : RoundTrip.Statement (.mflo rd) := by
  intro _; simp [encode, decodeCode, decode32, decodeSpecial, decodeBcond, decodeMadd, Decoded.when]

theorem RoundTrip.mthi (rs : Reg) : RoundTrip.Statement (.mthi rs) := by
  intro _; simp [encode, decodeCode, decode32, decodeSpecial, decodeBcond, decodeMadd, Decoded.when]

theorem RoundTrip.mtlo (rs : Reg) : RoundTrip.Statement (.mtlo rs) := by
  intro _; simp [encode, decodeCode, decode32, decodeSpecial, decodeBcond, decodeMadd, Decoded.when]

theorem RoundTrip.j (target : BitVec 26) : RoundTrip.Statement (.j target) := by
  intro _; simp [encode, decodeCode, decode32, decodeSpecial, decodeBcond, decodeMadd, Decoded.when]

theorem RoundTrip.jal (target : BitVec 26) : RoundTrip.Statement (.jal target) := by
  intro _; simp [encode, decodeCode, decode32, decodeSpecial, decodeBcond, decodeMadd, Decoded.when]

theorem RoundTrip.jalx (target : BitVec 26) : RoundTrip.Statement (.jalx target) := by
  intro _; simp [encode, decodeCode, decode32, decodeSpecial, decodeBcond, decodeMadd, Decoded.when]

theorem RoundTrip.jr (rs : Reg) : RoundTrip.Statement (.jr rs) := by
  intro _; simp [encode, decodeCode, decode32, decodeSpecial, decodeBcond, decodeMadd, Decoded.when]

theorem RoundTrip.jalr (rs : Reg) (rd : Reg) : RoundTrip.Statement (.jalr rs rd) := by
  intro _; simp [encode, decodeCode, decode32, decodeSpecial, decodeBcond, decodeMadd, Decoded.when]

theorem RoundTrip.beq (rs : Reg) (rt : Reg) (offset : BitVec 16) : RoundTrip.Statement (.beq rs rt offset) := by
  intro _; simp [encode, decodeCode, decode32, decodeSpecial, decodeBcond, decodeMadd, Decoded.when]

theorem RoundTrip.bne (rs : Reg) (rt : Reg) (offset : BitVec 16) : RoundTrip.Statement (.bne rs rt offset) := by
  intro _; simp [encode, decodeCode, decode32, decodeSpecial, decodeBcond, decodeMadd, Decoded.when]

theorem RoundTrip.blez (rs : Reg) (offset : BitVec 16) : RoundTrip.Statement (.blez rs offset) := by
  intro _; simp [encode, decodeCode, decode32, decodeSpecial, decodeBcond, decodeMadd, Decoded.when]

theorem RoundTrip.bgtz (rs : Reg) (offset : BitVec 16) : RoundTrip.Statement (.bgtz rs offset) := by
  intro _; simp [encode, decodeCode, decode32, decodeSpecial, decodeBcond, decodeMadd, Decoded.when]

theorem RoundTrip.bltz (rs : Reg) (offset : BitVec 16) : RoundTrip.Statement (.bltz rs offset) := by
  intro _; simp [encode, decodeCode, decode32, decodeSpecial, decodeBcond, decodeMadd, Decoded.when]

theorem RoundTrip.bgez (rs : Reg) (offset : BitVec 16) : RoundTrip.Statement (.bgez rs offset) := by
  intro _; simp [encode, decodeCode, decode32, decodeSpecial, decodeBcond, decodeMadd, Decoded.when]

theorem RoundTrip.bltzal (rs : Reg) (offset : BitVec 16) : RoundTrip.Statement (.bltzal rs offset) := by
  intro _; simp [encode, decodeCode, decode32, decodeSpecial, decodeBcond, decodeMadd, Decoded.when]

theorem RoundTrip.bgezal (rs : Reg) (offset : BitVec 16) : RoundTrip.Statement (.bgezal rs offset) := by
  intro _; simp [encode, decodeCode, decode32, decodeSpecial, decodeBcond, decodeMadd, Decoded.when]

theorem RoundTrip.bltzl (rs : Reg) (offset : BitVec 16) : RoundTrip.Statement (.bltzl rs offset) := by
  intro _; simp [encode, decodeCode, decode32, decodeSpecial, decodeBcond, decodeMadd, Decoded.when]

theorem RoundTrip.bgezl (rs : Reg) (offset : BitVec 16) : RoundTrip.Statement (.bgezl rs offset) := by
  intro _; simp [encode, decodeCode, decode32, decodeSpecial, decodeBcond, decodeMadd, Decoded.when]

theorem RoundTrip.bltzall (rs : Reg) (offset : BitVec 16) : RoundTrip.Statement (.bltzall rs offset) := by
  intro _; simp [encode, decodeCode, decode32, decodeSpecial, decodeBcond, decodeMadd, Decoded.when]

theorem RoundTrip.bgezall (rs : Reg) (offset : BitVec 16) : RoundTrip.Statement (.bgezall rs offset) := by
  intro _; simp [encode, decodeCode, decode32, decodeSpecial, decodeBcond, decodeMadd, Decoded.when]

theorem RoundTrip.beql (rs : Reg) (rt : Reg) (offset : BitVec 16) : RoundTrip.Statement (.beql rs rt offset) := by
  intro _; simp [encode, decodeCode, decode32, decodeSpecial, decodeBcond, decodeMadd, Decoded.when]

theorem RoundTrip.bnel (rs : Reg) (rt : Reg) (offset : BitVec 16) : RoundTrip.Statement (.bnel rs rt offset) := by
  intro _; simp [encode, decodeCode, decode32, decodeSpecial, decodeBcond, decodeMadd, Decoded.when]

theorem RoundTrip.blezl (rs : Reg) (offset : BitVec 16) : RoundTrip.Statement (.blezl rs offset) := by
  intro _; simp [encode, decodeCode, decode32, decodeSpecial, decodeBcond, decodeMadd, Decoded.when]

theorem RoundTrip.bgtzl (rs : Reg) (offset : BitVec 16) : RoundTrip.Statement (.bgtzl rs offset) := by
  intro _; simp [encode, decodeCode, decode32, decodeSpecial, decodeBcond, decodeMadd, Decoded.when]

theorem RoundTrip.mfc0 (rt : Reg) (rd : Reg) : RoundTrip.Statement (.mfc0 rt rd) := by
  intro _; simp [encode, decodeCode, decode32, decodeCop, decodeBcz, Decoded.whenCop, mfcOf, mtcOf, cfcOf, ctcOf,
    bcfOf, bctOf, bcflOf, bctlOf]

theorem RoundTrip.mtc0 (rt : Reg) (rd : Reg) : RoundTrip.Statement (.mtc0 rt rd) := by
  intro _; simp [encode, decodeCode, decode32, decodeCop, decodeBcz, Decoded.whenCop, mfcOf, mtcOf, cfcOf, ctcOf,
    bcfOf, bctOf, bcflOf, bctlOf]

theorem RoundTrip.cfc0 (rt : Reg) (rd : Reg) : RoundTrip.Statement (.cfc0 rt rd) := by
  intro _; simp [encode, decodeCode, decode32, decodeCop, decodeBcz, Decoded.whenCop, mfcOf, mtcOf, cfcOf, ctcOf,
    bcfOf, bctOf, bcflOf, bctlOf]

theorem RoundTrip.ctc0 (rt : Reg) (rd : Reg) : RoundTrip.Statement (.ctc0 rt rd) := by
  intro _; simp [encode, decodeCode, decode32, decodeCop, decodeBcz, Decoded.whenCop, mfcOf, mtcOf, cfcOf, ctcOf,
    bcfOf, bctOf, bcflOf, bctlOf]

theorem RoundTrip.mfc1 (rt : Reg) (rd : Reg) : RoundTrip.Statement (.mfc1 rt rd) := by
  intro _; simp [encode, decodeCode, decode32, decodeCop, decodeBcz, Decoded.whenCop, mfcOf, mtcOf, cfcOf, ctcOf,
    bcfOf, bctOf, bcflOf, bctlOf]

theorem RoundTrip.mtc1 (rt : Reg) (rd : Reg) : RoundTrip.Statement (.mtc1 rt rd) := by
  intro _; simp [encode, decodeCode, decode32, decodeCop, decodeBcz, Decoded.whenCop, mfcOf, mtcOf, cfcOf, ctcOf,
    bcfOf, bctOf, bcflOf, bctlOf]

theorem RoundTrip.cfc1 (rt : Reg) (rd : Reg) : RoundTrip.Statement (.cfc1 rt rd) := by
  intro _; simp [encode, decodeCode, decode32, decodeCop, decodeBcz, Decoded.whenCop, mfcOf, mtcOf, cfcOf, ctcOf,
    bcfOf, bctOf, bcflOf, bctlOf]

theorem RoundTrip.ctc1 (rt : Reg) (rd : Reg) : RoundTrip.Statement (.ctc1 rt rd) := by
  intro _; simp [encode, decodeCode, decode32, decodeCop, decodeBcz, Decoded.whenCop, mfcOf, mtcOf, cfcOf, ctcOf,
    bcfOf, bctOf, bcflOf, bctlOf]

theorem RoundTrip.cop1 (cofun : BitVec 25) : RoundTrip.Statement (.cop1 cofun) := by
  intro _; simp [encode, decodeCode, decode32, decodeCop_cofunWord, decodeCopOp, decodeCop0Op]

theorem RoundTrip.mfc2 (rt : Reg) (rd : Reg) : RoundTrip.Statement (.mfc2 rt rd) := by
  intro _; simp [encode, decodeCode, decode32, decodeCop, decodeBcz, Decoded.whenCop, mfcOf, mtcOf, cfcOf, ctcOf,
    bcfOf, bctOf, bcflOf, bctlOf]

theorem RoundTrip.mtc2 (rt : Reg) (rd : Reg) : RoundTrip.Statement (.mtc2 rt rd) := by
  intro _; simp [encode, decodeCode, decode32, decodeCop, decodeBcz, Decoded.whenCop, mfcOf, mtcOf, cfcOf, ctcOf,
    bcfOf, bctOf, bcflOf, bctlOf]

theorem RoundTrip.cfc2 (rt : Reg) (rd : Reg) : RoundTrip.Statement (.cfc2 rt rd) := by
  intro _; simp [encode, decodeCode, decode32, decodeCop, decodeBcz, Decoded.whenCop, mfcOf, mtcOf, cfcOf, ctcOf,
    bcfOf, bctOf, bcflOf, bctlOf]

theorem RoundTrip.ctc2 (rt : Reg) (rd : Reg) : RoundTrip.Statement (.ctc2 rt rd) := by
  intro _; simp [encode, decodeCode, decode32, decodeCop, decodeBcz, Decoded.whenCop, mfcOf, mtcOf, cfcOf, ctcOf,
    bcfOf, bctOf, bcflOf, bctlOf]

theorem RoundTrip.cop2 (cofun : BitVec 25) : RoundTrip.Statement (.cop2 cofun) := by
  intro _; simp [encode, decodeCode, decode32, decodeCop_cofunWord, decodeCopOp, decodeCop0Op]

theorem RoundTrip.mfc3 (rt : Reg) (rd : Reg) : RoundTrip.Statement (.mfc3 rt rd) := by
  intro _; simp [encode, decodeCode, decode32, decodeCop, decodeBcz, Decoded.whenCop, mfcOf, mtcOf, cfcOf, ctcOf,
    bcfOf, bctOf, bcflOf, bctlOf]

theorem RoundTrip.mtc3 (rt : Reg) (rd : Reg) : RoundTrip.Statement (.mtc3 rt rd) := by
  intro _; simp [encode, decodeCode, decode32, decodeCop, decodeBcz, Decoded.whenCop, mfcOf, mtcOf, cfcOf, ctcOf,
    bcfOf, bctOf, bcflOf, bctlOf]

theorem RoundTrip.cfc3 (rt : Reg) (rd : Reg) : RoundTrip.Statement (.cfc3 rt rd) := by
  intro _; simp [encode, decodeCode, decode32, decodeCop, decodeBcz, Decoded.whenCop, mfcOf, mtcOf, cfcOf, ctcOf,
    bcfOf, bctOf, bcflOf, bctlOf]

theorem RoundTrip.ctc3 (rt : Reg) (rd : Reg) : RoundTrip.Statement (.ctc3 rt rd) := by
  intro _; simp [encode, decodeCode, decode32, decodeCop, decodeBcz, Decoded.whenCop, mfcOf, mtcOf, cfcOf, ctcOf,
    bcfOf, bctOf, bcflOf, bctlOf]

theorem RoundTrip.cop3 (cofun : BitVec 25) : RoundTrip.Statement (.cop3 cofun) := by
  intro _; simp [encode, decodeCode, decode32, decodeCop_cofunWord, decodeCopOp, decodeCop0Op]

theorem RoundTrip.bc0f (offset : BitVec 16) : RoundTrip.Statement (.bc0f offset) := by
  intro _; simp [encode, decodeCode, decode32, decodeCop, decodeBcz, Decoded.whenCop, mfcOf, mtcOf, cfcOf, ctcOf,
    bcfOf, bctOf, bcflOf, bctlOf]

theorem RoundTrip.bc0t (offset : BitVec 16) : RoundTrip.Statement (.bc0t offset) := by
  intro _; simp [encode, decodeCode, decode32, decodeCop, decodeBcz, Decoded.whenCop, mfcOf, mtcOf, cfcOf, ctcOf,
    bcfOf, bctOf, bcflOf, bctlOf]

theorem RoundTrip.bc0fl (offset : BitVec 16) : RoundTrip.Statement (.bc0fl offset) := by
  intro _; simp [encode, decodeCode, decode32, decodeCop, decodeBcz, Decoded.whenCop, mfcOf, mtcOf, cfcOf, ctcOf,
    bcfOf, bctOf, bcflOf, bctlOf]

theorem RoundTrip.bc0tl (offset : BitVec 16) : RoundTrip.Statement (.bc0tl offset) := by
  intro _; simp [encode, decodeCode, decode32, decodeCop, decodeBcz, Decoded.whenCop, mfcOf, mtcOf, cfcOf, ctcOf,
    bcfOf, bctOf, bcflOf, bctlOf]

theorem RoundTrip.bc1f (offset : BitVec 16) : RoundTrip.Statement (.bc1f offset) := by
  intro _; simp [encode, decodeCode, decode32, decodeCop, decodeBcz, Decoded.whenCop, mfcOf, mtcOf, cfcOf, ctcOf,
    bcfOf, bctOf, bcflOf, bctlOf]

theorem RoundTrip.bc1t (offset : BitVec 16) : RoundTrip.Statement (.bc1t offset) := by
  intro _; simp [encode, decodeCode, decode32, decodeCop, decodeBcz, Decoded.whenCop, mfcOf, mtcOf, cfcOf, ctcOf,
    bcfOf, bctOf, bcflOf, bctlOf]

theorem RoundTrip.bc1fl (offset : BitVec 16) : RoundTrip.Statement (.bc1fl offset) := by
  intro _; simp [encode, decodeCode, decode32, decodeCop, decodeBcz, Decoded.whenCop, mfcOf, mtcOf, cfcOf, ctcOf,
    bcfOf, bctOf, bcflOf, bctlOf]

theorem RoundTrip.bc1tl (offset : BitVec 16) : RoundTrip.Statement (.bc1tl offset) := by
  intro _; simp [encode, decodeCode, decode32, decodeCop, decodeBcz, Decoded.whenCop, mfcOf, mtcOf, cfcOf, ctcOf,
    bcfOf, bctOf, bcflOf, bctlOf]

theorem RoundTrip.bc2f (offset : BitVec 16) : RoundTrip.Statement (.bc2f offset) := by
  intro _; simp [encode, decodeCode, decode32, decodeCop, decodeBcz, Decoded.whenCop, mfcOf, mtcOf, cfcOf, ctcOf,
    bcfOf, bctOf, bcflOf, bctlOf]

theorem RoundTrip.bc2t (offset : BitVec 16) : RoundTrip.Statement (.bc2t offset) := by
  intro _; simp [encode, decodeCode, decode32, decodeCop, decodeBcz, Decoded.whenCop, mfcOf, mtcOf, cfcOf, ctcOf,
    bcfOf, bctOf, bcflOf, bctlOf]

theorem RoundTrip.bc2fl (offset : BitVec 16) : RoundTrip.Statement (.bc2fl offset) := by
  intro _; simp [encode, decodeCode, decode32, decodeCop, decodeBcz, Decoded.whenCop, mfcOf, mtcOf, cfcOf, ctcOf,
    bcfOf, bctOf, bcflOf, bctlOf]

theorem RoundTrip.bc2tl (offset : BitVec 16) : RoundTrip.Statement (.bc2tl offset) := by
  intro _; simp [encode, decodeCode, decode32, decodeCop, decodeBcz, Decoded.whenCop, mfcOf, mtcOf, cfcOf, ctcOf,
    bcfOf, bctOf, bcflOf, bctlOf]

theorem RoundTrip.bc3f (offset : BitVec 16) : RoundTrip.Statement (.bc3f offset) := by
  intro _; simp [encode, decodeCode, decode32, decodeCop, decodeBcz, Decoded.whenCop, mfcOf, mtcOf, cfcOf, ctcOf,
    bcfOf, bctOf, bcflOf, bctlOf]

theorem RoundTrip.bc3t (offset : BitVec 16) : RoundTrip.Statement (.bc3t offset) := by
  intro _; simp [encode, decodeCode, decode32, decodeCop, decodeBcz, Decoded.whenCop, mfcOf, mtcOf, cfcOf, ctcOf,
    bcfOf, bctOf, bcflOf, bctlOf]

theorem RoundTrip.bc3fl (offset : BitVec 16) : RoundTrip.Statement (.bc3fl offset) := by
  intro _; simp [encode, decodeCode, decode32, decodeCop, decodeBcz, Decoded.whenCop, mfcOf, mtcOf, cfcOf, ctcOf,
    bcfOf, bctOf, bcflOf, bctlOf]

theorem RoundTrip.bc3tl (offset : BitVec 16) : RoundTrip.Statement (.bc3tl offset) := by
  intro _; simp [encode, decodeCode, decode32, decodeCop, decodeBcz, Decoded.whenCop, mfcOf, mtcOf, cfcOf, ctcOf,
    bcfOf, bctOf, bcflOf, bctlOf]

theorem RoundTrip.rfe : RoundTrip.Statement (.rfe) := by
  intro _; simp [encode, decodeCode, decode32, decodeCop_cofunWord, decodeCopOp, decodeCop0Op]

theorem RoundTrip.deret : RoundTrip.Statement (.deret) := by
  intro _; simp [encode, decodeCode, decode32, decodeCop_cofunWord, decodeCopOp, decodeCop0Op]

theorem RoundTrip.tlbr : RoundTrip.Statement (.tlbr) := by
  intro _; simp [encode, decodeCode, decode32, decodeCop_cofunWord, decodeCopOp, decodeCop0Op]

theorem RoundTrip.tlbwi : RoundTrip.Statement (.tlbwi) := by
  intro _; simp [encode, decodeCode, decode32, decodeCop_cofunWord, decodeCopOp, decodeCop0Op]

theorem RoundTrip.tlbwr : RoundTrip.Statement (.tlbwr) := by
  intro _; simp [encode, decodeCode, decode32, decodeCop_cofunWord, decodeCopOp, decodeCop0Op]

theorem RoundTrip.tlbp : RoundTrip.Statement (.tlbp) := by
  intro _; simp [encode, decodeCode, decode32, decodeCop_cofunWord, decodeCopOp, decodeCop0Op]

theorem RoundTrip.cache (base : Reg) (op : BitVec 5) (offset : BitVec 16) : RoundTrip.Statement (.cache base op offset) := by
  intro _; simp [encode, decodeCode, decode32, decodeSpecial, decodeBcond, decodeMadd, Decoded.when]

theorem RoundTrip.lwcz (z : BitVec 2) (base : Reg) (rt : Reg) (offset : BitVec 16) : RoundTrip.Statement (.lwcz z base rt offset) := by
  intro _; obtain rfl | rfl | rfl | rfl := copNumber_cases z <;> simp [encode, decodeCode, decode32]

theorem RoundTrip.swcz (z : BitVec 2) (base : Reg) (rt : Reg) (offset : BitVec 16) : RoundTrip.Statement (.swcz z base rt offset) := by
  intro _; obtain rfl | rfl | rfl | rfl := copNumber_cases z <;> simp [encode, decodeCode, decode32]

theorem RoundTrip.syscall (code : BitVec 20) : RoundTrip.Statement (.syscall code) := by
  intro _; simp [encode, decodeCode, decode32, decodeSpecial, decodeBcond, decodeMadd, Decoded.when]

theorem RoundTrip.brk (code : BitVec 20) : RoundTrip.Statement (.brk code) := by
  intro _; simp [encode, decodeCode, decode32, decodeSpecial, decodeBcond, decodeMadd, Decoded.when]

theorem RoundTrip.sdbbp (code : BitVec 20) : RoundTrip.Statement (.sdbbp code) := by
  intro _; simp [encode, decodeCode, decode32, decodeSpecial, decodeBcond, decodeMadd, Decoded.when]

theorem RoundTrip.lb16 (base : Reg3) (ry : Reg3) (offset : BitVec 5) : RoundTrip.Statement (.lb16 base ry offset) := by
  intro _; simp [encode, decodeCode, decode16, decodeRr, decodeJr16, decodeI8, Decoded.when]

theorem RoundTrip.lbu16 (base : Reg3) (ry : Reg3) (offset : BitVec 5) : RoundTrip.Statement (.lbu16 base ry offset) := by
  intro _; simp [encode, decodeCode, decode16, decodeRr, decodeJr16, decodeI8, Decoded.when]

theorem RoundTrip.lh16 (base : Reg3) (ry : Reg3) (offset : BitVec 5) : RoundTrip.Statement (.lh16 base ry offset) := by
  intro _; simp [encode, decodeCode, decode16, decodeRr, decodeJr16, decodeI8, Decoded.when]

theorem RoundTrip.lhu16 (base : Reg3) (ry : Reg3) (offset : BitVec 5) : RoundTrip.Statement (.lhu16 base ry offset) := by
  intro _; simp [encode, decodeCode, decode16, decodeRr, decodeJr16, decodeI8, Decoded.when]

theorem RoundTrip.lw16 (base : Reg3) (ry : Reg3) (offset : BitVec 5) : RoundTrip.Statement (.lw16 base ry offset) := by
  intro _; simp [encode, decodeCode, decode16, decodeRr, decodeJr16, decodeI8, Decoded.when]

theorem RoundTrip.lwpc (rx : Reg3) (imm : BitVec 8) : RoundTrip.Statement (.lwpc rx imm) := by
  intro _; simp [encode, decodeCode, decode16, decodeRr, decodeJr16, decodeI8, Decoded.when]

theorem RoundTrip.lwsp (rx : Reg3) (imm : BitVec 8) : RoundTrip.Statement (.lwsp rx imm) := by
  intro _; simp [encode, decodeCode, decode16, decodeRr, decodeJr16, decodeI8, Decoded.when]

theorem RoundTrip.sb16 (base : Reg3) (ry : Reg3) (offset : BitVec 5) : RoundTrip.Statement (.sb16 base ry offset) := by
  intro _; simp [encode, decodeCode, decode16, decodeRr, decodeJr16, decodeI8, Decoded.when]

theorem RoundTrip.sh16 (base : Reg3) (ry : Reg3) (offset : BitVec 5) : RoundTrip.Statement (.sh16 base ry offset) := by
  intro _; simp [encode, decodeCode, decode16, decodeRr, decodeJr16, decodeI8, Decoded.when]

theorem RoundTrip.sw16 (base : Reg3) (ry : Reg3) (offset : BitVec 5) : RoundTrip.Statement (.sw16 base ry offset) := by
  intro _; simp [encode, decodeCode, decode16, decodeRr, decodeJr16, decodeI8, Decoded.when]

theorem RoundTrip.swsp (rx : Reg3) (imm : BitVec 8) : RoundTrip.Statement (.swsp rx imm) := by
  intro _; simp [encode, decodeCode, decode16, decodeRr, decodeJr16, decodeI8, Decoded.when]

theorem RoundTrip.swrasp (imm : BitVec 8) : RoundTrip.Statement (.swrasp imm) := by
  intro _; simp [encode, decodeCode, decode16, decodeRr, decodeJr16, decodeI8, Decoded.when]

theorem RoundTrip.addiu3 (rx : Reg3) (ry : Reg3) (imm : BitVec 4) : RoundTrip.Statement (.addiu3 rx ry imm) := by
  intro _; simp [encode, decodeCode, decode16, decodeRr, decodeJr16, decodeI8, Decoded.when]

theorem RoundTrip.addiupc (rx : Reg3) (imm : BitVec 8) : RoundTrip.Statement (.addiupc rx imm) := by
  intro _; simp [encode, decodeCode, decode16, decodeRr, decodeJr16, decodeI8, Decoded.when]

theorem RoundTrip.addiu8 (rx : Reg3) (imm : BitVec 8) : RoundTrip.Statement (.addiu8 rx imm) := by
  intro _; simp [encode, decodeCode, decode16, decodeRr, decodeJr16, decodeI8, Decoded.when]

theorem RoundTrip.addiusp (rx : Reg3) (imm : BitVec 8) : RoundTrip.Statement (.addiusp rx imm) := by
  intro _; simp [encode, decodeCode, decode16, decodeRr, decodeJr16, decodeI8, Decoded.when]

theorem RoundTrip.adjsp (imm : BitVec 8) : RoundTrip.Statement (.adjsp imm) := by
  intro _; simp [encode, decodeCode, decode16, decodeRr, decodeJr16, decodeI8, Decoded.when]

theorem RoundTrip.addu16 (rx : Reg3) (ry : Reg3) (rz : Reg3) : RoundTrip.Statement (.addu16 rx ry rz) := by
  intro _; simp [encode, decodeCode, decode16, decodeRr, decodeJr16, decodeI8, Decoded.when]

theorem RoundTrip.subu16 (rx : Reg3) (ry : Reg3) (rz : Reg3) : RoundTrip.Statement (.subu16 rx ry rz) := by
  intro _; simp [encode, decodeCode, decode16, decodeRr, decodeJr16, decodeI8, Decoded.when]

theorem RoundTrip.neg16 (rx : Reg3) (ry : Reg3) : RoundTrip.Statement (.neg16 rx ry) := by
  intro _; simp [encode, decodeCode, decode16, decodeRr, decodeJr16, decodeI8, Decoded.when]

theorem RoundTrip.slt16 (rx : Reg3) (ry : Reg3) : RoundTrip.Statement (.slt16 rx ry) := by
  intro _; simp [encode, decodeCode, decode16, decodeRr, decodeJr16, decodeI8, Decoded.when]

theorem RoundTrip.sltu16 (rx : Reg3) (ry : Reg3) : RoundTrip.Statement (.sltu16 rx ry) := by
  intro _; simp [encode, decodeCode, decode16, decodeRr, decodeJr16, decodeI8, Decoded.when]

theorem RoundTrip.slti16 (rx : Reg3) (imm : BitVec 8) : RoundTrip.Statement (.slti16 rx imm) := by
  intro _; simp [encode, decodeCode, decode16, decodeRr, decodeJr16, decodeI8, Decoded.when]

theorem RoundTrip.sltiu16 (rx : Reg3) (imm : BitVec 8) : RoundTrip.Statement (.sltiu16 rx imm) := by
  intro _; simp [encode, decodeCode, decode16, decodeRr, decodeJr16, decodeI8, Decoded.when]

theorem RoundTrip.movr32 (ry : Reg3) (r32 : Reg) : RoundTrip.Statement (.movr32 ry r32) := by
  intro _; simp [encode, decodeCode, decode16, decodeRr, decodeJr16, decodeI8, Decoded.when]

theorem RoundTrip.mov32r (r32 : Reg) (rz : Reg3) : RoundTrip.Statement (.mov32r r32 rz) := by
  intro _; simp [encode, decodeCode, decode16, decodeI8]; exact join_r32 r32

theorem RoundTrip.cmp16 (rx : Reg3) (ry : Reg3) : RoundTrip.Statement (.cmp16 rx ry) := by
  intro _; simp [encode, decodeCode, decode16, decodeRr, decodeJr16, decodeI8, Decoded.when]

theorem RoundTrip.cmpi16 (rx : Reg3) (imm : BitVec 8) : RoundTrip.Statement (.cmpi16 rx imm) := by
  intro _; simp [encode, decodeCode, decode16, decodeRr, decodeJr16, decodeI8, Decoded.when]

theorem RoundTrip.and16 (rx : Reg3) (ry : Reg3) : RoundTrip.Statement (.and16 rx ry) := by
  intro _; simp [encode, decodeCode, decode16, decodeRr, decodeJr16, decodeI8, Decoded.when]

theorem RoundTrip.or16 (rx : Reg3) (ry : Reg3) : RoundTrip.Statement (.or16 rx ry) := by
  intro _; simp [encode, decodeCode, decode16, decodeRr, decodeJr16, decodeI8, Decoded.when]

theorem RoundTrip.xor16 (rx : Reg3) (ry : Reg3) : RoundTrip.Statement (.xor16 rx ry) := by
  intro _; simp [encode, decodeCode, decode16, decodeRr, decodeJr16, decodeI8, Decoded.when]

theorem RoundTrip.not16 (rx : Reg3) (ry : Reg3) : RoundTrip.Statement (.not16 rx ry) := by
  intro _; simp [encode, decodeCode, decode16, decodeRr, decodeJr16, decodeI8, Decoded.when]

theorem RoundTrip.li16 (rx : Reg3) (imm : BitVec 8) : RoundTrip.Statement (.li16 rx imm) := by
  intro _; simp [encode, decodeCode, decode16, decodeRr, decodeJr16, decodeI8, Decoded.when]

theorem RoundTrip.sll16 (rx : Reg3) (ry : Reg3) (sa : BitVec 3) : RoundTrip.Statement (.sll16 rx ry sa) := by
  intro _; simp [encode, decodeCode, decode16, decodeRr, decodeJr16, decodeI8, Decoded.when]

theorem RoundTrip.srl16 (rx : Reg3) (ry : Reg3) (sa : BitVec 3) : RoundTrip.Statement (.srl16 rx ry sa) := by
  intro _; simp [encode, decodeCode, decode16, decodeRr, decodeJr16, decodeI8, Decoded.when]

theorem RoundTrip.sra16 (rx : Reg3) (ry : Reg3) (sa : BitVec 3) : RoundTrip.Statement (.sra16 rx ry sa) := by
  intro _; simp [encode, decodeCode, decode16, decodeRr, decodeJr16, decodeI8, Decoded.when]

theorem RoundTrip.sllv16 (rx : Reg3) (ry : Reg3) : RoundTrip.Statement (.sllv16 rx ry) := by
  intro _; simp [encode, decodeCode, decode16, decodeRr, decodeJr16, decodeI8, Decoded.when]

theorem RoundTrip.srlv16 (rx : Reg3) (ry : Reg3) : RoundTrip.Statement (.srlv16 rx ry) := by
  intro _; simp [encode, decodeCode, decode16, decodeRr, decodeJr16, decodeI8, Decoded.when]

theorem RoundTrip.srav16 (rx : Reg3) (ry : Reg3) : RoundTrip.Statement (.srav16 rx ry) := by
  intro _; simp [encode, decodeCode, decode16, decodeRr, decodeJr16, decodeI8, Decoded.when]

theorem RoundTrip.mult16 (rx : Reg3) (ry : Reg3) : RoundTrip.Statement (.mult16 rx ry) := by
  intro _; simp [encode, decodeCode, decode16, decodeRr, decodeJr16, decodeI8, Decoded.when]

theorem RoundTrip.multu16 (rx : Reg3) (ry : Reg3) : RoundTrip.Statement (.multu16 rx ry) := by
  intro _; simp [encode, decodeCode, decode16, decodeRr, decodeJr16, decodeI8, Decoded.when]

theorem RoundTrip.div16 (rx : Reg3) (ry : Reg3) : RoundTrip.Statement (.div16 rx ry) := by
  intro _; simp [encode, decodeCode, decode16, decodeRr, decodeJr16, decodeI8, Decoded.when]

theorem RoundTrip.divu16 (rx : Reg3) (ry : Reg3) : RoundTrip.Statement (.divu16 rx ry) := by
  intro _; simp [encode, decodeCode, decode16, decodeRr, decodeJr16, decodeI8, Decoded.when]

theorem RoundTrip.mfhi16 (rx : Reg3) : RoundTrip.Statement (.mfhi16 rx) := by
  intro _; simp [encode, decodeCode, decode16, decodeRr, decodeJr16, decodeI8, Decoded.when]

theorem RoundTrip.mflo16 (rx : Reg3) : RoundTrip.Statement (.mflo16 rx) := by
  intro _; simp [encode, decodeCode, decode16, decodeRr, decodeJr16, decodeI8, Decoded.when]

theorem RoundTrip.jal16 (target : BitVec 26) : RoundTrip.Statement (.jal16 target) := by
  intro _; simp [encode, decodeCode, decodePair]; exact join_target target

theorem RoundTrip.jalx16 (target : BitVec 26) : RoundTrip.Statement (.jalx16 target) := by
  intro _; simp [encode, decodeCode, decodePair]; exact join_target target

theorem RoundTrip.jr16 (rx : Reg3) : RoundTrip.Statement (.jr16 rx) := by
  intro _; simp [encode, decodeCode, decode16, decodeRr, decodeJr16, decodeI8, Decoded.when]

theorem RoundTrip.jrra : RoundTrip.Statement (.jrra) := by
  intro _; simp [encode, decodeCode, decode16, decodeRr, decodeJr16, decodeI8, Decoded.when]

theorem RoundTrip.jalr16 (rx : Reg3) : RoundTrip.Statement (.jalr16 rx) := by
  intro _; simp [encode, decodeCode, decode16, decodeRr, decodeJr16, decodeI8, Decoded.when]

theorem RoundTrip.beqz (rx : Reg3) (offset : BitVec 8) : RoundTrip.Statement (.beqz rx offset) := by
  intro _; simp [encode, decodeCode, decode16, decodeRr, decodeJr16, decodeI8, Decoded.when]

theorem RoundTrip.bnez (rx : Reg3) (offset : BitVec 8) : RoundTrip.Statement (.bnez rx offset) := by
  intro _; simp [encode, decodeCode, decode16, decodeRr, decodeJr16, decodeI8, Decoded.when]

theorem RoundTrip.bteqz (offset : BitVec 8) : RoundTrip.Statement (.bteqz offset) := by
  intro _; simp [encode, decodeCode, decode16, decodeRr, decodeJr16, decodeI8, Decoded.when]

theorem RoundTrip.btnez (offset : BitVec 8) : RoundTrip.Statement (.btnez offset) := by
  intro _; simp [encode, decodeCode, decode16, decodeRr, decodeJr16, decodeI8, Decoded.when]

theorem RoundTrip.b (offset : BitVec 11) : RoundTrip.Statement (.b offset) := by
  intro _; simp [encode, decodeCode, decode16, decodeRr, decodeJr16, decodeI8, Decoded.when]

theorem RoundTrip.brk16 (code : BitVec 6) : RoundTrip.Statement (.brk16 code) := by
  intro _; simp [encode, decodeCode, decode16, decodeRr, decodeJr16, decodeI8, Decoded.when]

theorem RoundTrip.sdbbp16 (code : BitVec 6) : RoundTrip.Statement (.sdbbp16 code) := by
  intro _; simp [encode, decodeCode, decode16, decodeRr, decodeJr16, decodeI8, Decoded.when]

theorem RoundTrip.extend (imm : BitVec 11) (low : BitVec 16) : RoundTrip.Statement (.extend imm low) := by
  intro h
  simp only [Instr.wf, Bool.not_eq_true'] at h
  simp only [encode, decodeCode, decodePair, iHalf_op16Field]
  simp [decodeExtended_misused imm low h]

theorem RoundTrip.lbE (base : Reg3) (ry : Reg3) (imm : BitVec 16) : RoundTrip.Statement (.lbE base ry imm) := by
  intro _; simp [encode, extPair, extShift, decodeCode, decodePair, decodeExtended, Decoded.when, extImm_extHalf, rriHalf_code6]

theorem RoundTrip.lbuE (base : Reg3) (ry : Reg3) (imm : BitVec 16) : RoundTrip.Statement (.lbuE base ry imm) := by
  intro _; simp [encode, extPair, extShift, decodeCode, decodePair, decodeExtended, Decoded.when, extImm_extHalf, rriHalf_code6]

theorem RoundTrip.lhE (base : Reg3) (ry : Reg3) (imm : BitVec 16) : RoundTrip.Statement (.lhE base ry imm) := by
  intro _; simp [encode, extPair, extShift, decodeCode, decodePair, decodeExtended, Decoded.when, extImm_extHalf, rriHalf_code6]

theorem RoundTrip.lhuE (base : Reg3) (ry : Reg3) (imm : BitVec 16) : RoundTrip.Statement (.lhuE base ry imm) := by
  intro _; simp [encode, extPair, extShift, decodeCode, decodePair, decodeExtended, Decoded.when, extImm_extHalf, rriHalf_code6]

theorem RoundTrip.lwE (base : Reg3) (ry : Reg3) (imm : BitVec 16) : RoundTrip.Statement (.lwE base ry imm) := by
  intro _; simp [encode, extPair, extShift, decodeCode, decodePair, decodeExtended, Decoded.when, extImm_extHalf, rriHalf_code6]

theorem RoundTrip.lwpcE (rx : Reg3) (imm : BitVec 16) : RoundTrip.Statement (.lwpcE rx imm) := by
  intro _; simp [encode, extPair, extShift, decodeCode, decodePair, decodeExtended, Decoded.when, extImm_extHalf, rriHalf_code6]

theorem RoundTrip.lwspE (rx : Reg3) (imm : BitVec 16) : RoundTrip.Statement (.lwspE rx imm) := by
  intro _; simp [encode, extPair, extShift, decodeCode, decodePair, decodeExtended, Decoded.when, extImm_extHalf, rriHalf_code6]

theorem RoundTrip.sbE (base : Reg3) (ry : Reg3) (imm : BitVec 16) : RoundTrip.Statement (.sbE base ry imm) := by
  intro _; simp [encode, extPair, extShift, decodeCode, decodePair, decodeExtended, Decoded.when, extImm_extHalf, rriHalf_code6]

theorem RoundTrip.shE (base : Reg3) (ry : Reg3) (imm : BitVec 16) : RoundTrip.Statement (.shE base ry imm) := by
  intro _; simp [encode, extPair, extShift, decodeCode, decodePair, decodeExtended, Decoded.when, extImm_extHalf, rriHalf_code6]

theorem RoundTrip.swE (base : Reg3) (ry : Reg3) (imm : BitVec 16) : RoundTrip.Statement (.swE base ry imm) := by
  intro _; simp [encode, extPair, extShift, decodeCode, decodePair, decodeExtended, Decoded.when, extImm_extHalf, rriHalf_code6]

theorem RoundTrip.swspE (rx : Reg3) (imm : BitVec 16) : RoundTrip.Statement (.swspE rx imm) := by
  intro _; simp [encode, extPair, extShift, decodeCode, decodePair, decodeExtended, Decoded.when, extImm_extHalf, rriHalf_code6]

theorem RoundTrip.swraspE (imm : BitVec 16) : RoundTrip.Statement (.swraspE imm) := by
  intro _; simp [encode, extPair, extShift, decodeCode, decodePair, decodeExtended, Decoded.when, extImm_extHalf, rriHalf_code6]

theorem RoundTrip.addiu3E (rx : Reg3) (ry : Reg3) (imm : BitVec 15) : RoundTrip.Statement (.addiu3E rx ry imm) := by
  intro _; simp [encode, decodeCode, decodePair, decodeExtended]; exact join_imm15 imm

theorem RoundTrip.addiupcE (rx : Reg3) (imm : BitVec 16) : RoundTrip.Statement (.addiupcE rx imm) := by
  intro _; simp [encode, extPair, extShift, decodeCode, decodePair, decodeExtended, Decoded.when, extImm_extHalf, rriHalf_code6]

theorem RoundTrip.addiu8E (rx : Reg3) (imm : BitVec 16) : RoundTrip.Statement (.addiu8E rx imm) := by
  intro _; simp [encode, extPair, extShift, decodeCode, decodePair, decodeExtended, Decoded.when, extImm_extHalf, rriHalf_code6]

theorem RoundTrip.addiuspE (rx : Reg3) (imm : BitVec 16) : RoundTrip.Statement (.addiuspE rx imm) := by
  intro _; simp [encode, extPair, extShift, decodeCode, decodePair, decodeExtended, Decoded.when, extImm_extHalf, rriHalf_code6]

theorem RoundTrip.adjspE (imm : BitVec 16) : RoundTrip.Statement (.adjspE imm) := by
  intro _; simp [encode, extPair, extShift, decodeCode, decodePair, decodeExtended, Decoded.when, extImm_extHalf, rriHalf_code6]

theorem RoundTrip.sltiE (rx : Reg3) (imm : BitVec 16) : RoundTrip.Statement (.sltiE rx imm) := by
  intro _; simp [encode, extPair, extShift, decodeCode, decodePair, decodeExtended, Decoded.when, extImm_extHalf, rriHalf_code6]

theorem RoundTrip.sltiuE (rx : Reg3) (imm : BitVec 16) : RoundTrip.Statement (.sltiuE rx imm) := by
  intro _; simp [encode, extPair, extShift, decodeCode, decodePair, decodeExtended, Decoded.when, extImm_extHalf, rriHalf_code6]

theorem RoundTrip.cmpiE (rx : Reg3) (imm : BitVec 16) : RoundTrip.Statement (.cmpiE rx imm) := by
  intro _; simp [encode, extPair, extShift, decodeCode, decodePair, decodeExtended, Decoded.when, extImm_extHalf, rriHalf_code6]

theorem RoundTrip.liE (rx : Reg3) (imm : BitVec 16) : RoundTrip.Statement (.liE rx imm) := by
  intro _; simp [encode, extPair, extShift, decodeCode, decodePair, decodeExtended, Decoded.when, extImm_extHalf, rriHalf_code6]

theorem RoundTrip.sllE (rx : Reg3) (ry : Reg3) (sa : BitVec 5) : RoundTrip.Statement (.sllE rx ry sa) := by
  intro _; simp [encode, extPair, extShift, decodeCode, decodePair, decodeExtended, Decoded.when, extImm_extHalf, rriHalf_code6]

theorem RoundTrip.srlE (rx : Reg3) (ry : Reg3) (sa : BitVec 5) : RoundTrip.Statement (.srlE rx ry sa) := by
  intro _; simp [encode, extPair, extShift, decodeCode, decodePair, decodeExtended, Decoded.when, extImm_extHalf, rriHalf_code6]

theorem RoundTrip.sraE (rx : Reg3) (ry : Reg3) (sa : BitVec 5) : RoundTrip.Statement (.sraE rx ry sa) := by
  intro _; simp [encode, extPair, extShift, decodeCode, decodePair, decodeExtended, Decoded.when, extImm_extHalf, rriHalf_code6]

theorem RoundTrip.beqzE (rx : Reg3) (offset : BitVec 16) : RoundTrip.Statement (.beqzE rx offset) := by
  intro _; simp [encode, extPair, extShift, decodeCode, decodePair, decodeExtended, Decoded.when, extImm_extHalf, rriHalf_code6]

theorem RoundTrip.bnezE (rx : Reg3) (offset : BitVec 16) : RoundTrip.Statement (.bnezE rx offset) := by
  intro _; simp [encode, extPair, extShift, decodeCode, decodePair, decodeExtended, Decoded.when, extImm_extHalf, rriHalf_code6]

theorem RoundTrip.bteqzE (offset : BitVec 16) : RoundTrip.Statement (.bteqzE offset) := by
  intro _; simp [encode, extPair, extShift, decodeCode, decodePair, decodeExtended, Decoded.when, extImm_extHalf, rriHalf_code6]

theorem RoundTrip.btnezE (offset : BitVec 16) : RoundTrip.Statement (.btnezE offset) := by
  intro _; simp [encode, extPair, extShift, decodeCode, decodePair, decodeExtended, Decoded.when, extImm_extHalf, rriHalf_code6]

theorem RoundTrip.bE (offset : BitVec 16) : RoundTrip.Statement (.bE offset) := by
  intro _; simp [encode, extPair, extShift, decodeCode, decodePair, decodeExtended, Decoded.when, extImm_extHalf, rriHalf_code6]

end Sys2Proof.Laws
end

