-- ==== Sys2Proof/Safety.lean ====
section
/-! DEFINITION. What every state of a run satisfies, and what counts as a safe step, in the words the statements use. -/

namespace Sys2Proof.Machine

/-- The invariant of every run: memory in canonical form (10_state.md R68), r0 is 0 (R21), the reserved bits of the CP0
registers are 0 (R34, R40, R49, R59), and Halt and Doze are not both set (R36). -/
def State.Inv (s : State) : Prop :=
  Memory.wf s.mem = true ∧
  s.gpr[0] = 0 ∧
  s.status &&& ~~~statusMask = 0 ∧
  s.config &&& ~~~configMask = 0 ∧
  s.cause &&& ~~~causeMask = 0 ∧
  s.debug &&& ~~~debugMask = 0 ∧
  (bit s.config 8 && bit s.config 9) = false

/-- The step goes on: no fault and no refusal. -/
def State.Runs (s : State) : Prop := ∃ t, step s = .next t

/-- Kernel mode (10_state.md R75). -/
def State.kernelMode (s : State) : Bool := !s.userMode

end Sys2Proof.Machine
end

