-- ==== Sys2Proof/Certificates/Slice0/Obligations.lean ====
section
/-! DEFINITION. The statements for the provers. The vocabulary comes first, in Sys2Proof.Spec: it says in arithmetic on
numbers and in tables what the machine says with its own operations. `prev`, `storeWindow` and `tick` are the model's own
fields (logs 7, 12, 25). -/

namespace Sys2Proof.Spec

open Sys2Proof.Machine

/-! ### Vocabulary: registers and sequencing -/

/-- The state with register rd written; a write to r0 is discarded (10_state.md R21). -/
def put (s : State) (rd : Reg) (v : Word) : State :=
  { s with gpr := Vector.ofFn fun i => if i.val = rd.toNat ∧ i.val ≠ 0 then v else s.gpr[i] }

/-- The instruction at the program counter, `len` bytes long, completes and nothing else changes: the next one is behind it,
or at the target where it stood in a delay slot (10_state.md R27, R69); the end of DERET's slot leaves debug mode (60 R494). -/
def done (len : Word) (s : State) : State :=
  match s.slot with
  | none => { s with pc := s.pc + len, prev := .other, ssSkip := false }
  | some k => { s with pc := k.target, slot := none, prev := .other, ssSkip := k.leavesDebug, debug := if k.leavesDebug then s.debug &&& ~~~(1#32 <<< 30) else s.debug }

/-- The same for a load or store, which the next MTC0 may ask about (20_memory.md R105). -/
def doneAccess (len : Word) (s : State) : State := { done len s with prev := .access }

/-- The same for an MTC0, with the note it leaves for the next instruction: the register written, which RFE and DERET ask about
(70_reset_and_hazards.md R536), and whether Status.KUc changed, which a load or store asks about (R105). -/
def doneMtc0 (rd : Reg) (kuChanged : Bool) (s : State) : State := { done 4 s with prev := .mtc0 rd kuChanged }

/-- A jump or branch of `len` bytes completes: its delay slot is next, and then `target`, or at once where the slot is
nullified (43_jump_branch32.md R251). -/
def jumped (len target : Word) (nullify : Bool) (s : State) : State :=
  { s with pc := s.pc + len, slot := some ⟨s.pc, target, nullify, false⟩, prev := .other, ssSkip := false }

/-- A 16-bit branch completes: no delay slot. -/
def branched (target : Word) (s : State) : State := { s with pc := target, prev := .other, ssSkip := false }

/-- Is the instruction two halfwords of the 16-bit ISA long? -/
def twoHalves (i : Instr) : Bool :=
  match encode i with
  | .pair _ _ => true
  | _ => false

/-! ### Vocabulary: exceptions -/

/-- Status after the push, bit by bit: bits 1:0 are 0, bits 5:2 are the former 3:0, bits 18:16 the former 15:13, the rest is
unchanged (60_exceptions.md R442). -/
def StatusPushed (old new : Word) : Prop :=
  ∀ i, i < 32 → new.getLsbD i = (if i < 2 then false else if i < 6 then old.getLsbD (i - 2)
    else if 16 ≤ i ∧ i < 19 then old.getLsbD (i - 3) else old.getLsbD i)

/-- Status after the pop, bit by bit: bits 3:0 are the former 5:2, bits 15:13 the former 18:16 (R455). -/
def StatusPopped (old new : Word) : Prop :=
  ∀ i, i < 32 → new.getLsbD i = (if i < 4 then old.getLsbD (i + 2)
    else if 13 ≤ i ∧ i < 16 then old.getLsbD (i + 3) else old.getLsbD i)

/-- Cause after an entry: BD, ExcCode, and CE where the exception names a coprocessor; Sw stays, reserved bits are 0 (R446). -/
def CauseSet (old new : Word) (bd : Bool) (ce : Option (BitVec 2)) (code : BitVec 5) : Prop :=
  new.getLsbD 31 = bd ∧ (∀ z, ce = some z → new.extractLsb' 28 2 = z) ∧ new.extractLsb' 8 4 = old.extractLsb' 8 4
    ∧ new.extractLsb' 2 5 = code ∧ new &&& 0x4FFFF083 = 0

/-- The address an exception saves: that of the jump or branch in a delay slot, else that of the instruction, with the ISA mode
in bit 0 (R444). -/
def savedPc (s : State) : Word :=
  match s.slot with
  | some k => k.branchPc
  | none => s.pc

/-- The whole entry of an exception other than NMI and Int (R448): `t` is `s` but for what is named here. It ends the hazards of
what came before (`prev`, `storeWindow`: logs 18, 20, 21, 24, 25). -/
def Entered (s t : State) (code : BitVec 5) (ce : Option (BitVec 2)) (badVAddr : Word) : Prop :=
  t = { s with pc := (if s.status.getLsbD 22 then 0xBFC00180 else 0x80000080), badVAddr := badVAddr, epc := savedPc s, status := t.status, cause := t.cause, slot := none, ssSkip := false, prev := .entry, storeWindow := [] }
    ∧ StatusPushed s.status t.status ∧ CauseSet s.cause t.cause s.slot.isSome ce code

/-- The instruction takes such an exception. -/
def Traps (i : Instr) (s : State) (code : BitVec 5) (ce : Option (BitVec 2)) (badVAddr : Word) : Prop :=
  ∃ t, exec i s = .next t ∧ Entered s t code ce badVAddr

/-! ### Vocabulary: memory -/

/-- The reserved ranges (20_memory.md R93). -/
abbrev InReserved (ea : Word) : Prop := (0x7F000000 ≤ ea.toNat ∧ ea.toNat < 0x80000000) ∨ 0xFF000000 ≤ ea.toNat

/-- The address is aligned, and in user mode not a kernel address: no AdEL or AdES (20_memory.md R85, R86, R92). -/
abbrev Permitted (s : State) (ea : Word) (align : Nat) : Prop := ea.toNat % align = 0 ∧ (s.userMode = true → ea.toNat < 2 ^ 31)

/-- Nothing stops the access on its way to memory or a device: it is permitted, it does not stand directly behind a change of
Status.KUc (R105), and in a reserved range it meets only devices (R93). -/
abbrev Admitted (s : State) (ea : Word) (align : Nat) (bytes : List Word) : Prop :=
  s.prev.changedMode = false ∧ Permitted s ea align ∧ (InReserved ea → ∀ va ∈ bytes, s.onDevice va = true)

/-- The access is admitted and meets no bus error: nothing here raises an exception or stops (R97). -/
abbrev Reachable (s : State) (k : AccessKind) (ea : Word) (align : Nat) (bytes : List Word) : Prop :=
  Admitted s ea align bytes ∧ s.busFails k bytes = false

/-- The number that bytes hold in the byte order, the first byte at the lowest address (R82, R83). -/
def number (big : Bool) (bytes : List Byte) : Nat :=
  (if big then bytes else bytes.reverse).foldl (fun n b => 256 * n + b.toNat) 0

/-- The `n` bytes of memory from the physical address of `ea` up. -/
def physicalBytes (s : State) (ea : Word) (n : Nat) : List Byte :=
  (List.range n).map fun i => memRead s.mem ((Machine.translate ea).toNat + i)

/-- What `n` bytes of memory give a load that sign-extends or does not (R97, 40_loadstore32.md R173 to R179). -/
def widened (n : Nat) (signed : Bool) (v : BitVec (8 * n)) : Word :=
  if signed then BitVec.ofInt 32 v.toInt else BitVec.ofNat 32 v.toNat

/-- The value a load of `n` bytes of memory gives. -/
def loaded (s : State) (ea : Word) (n : Nat) (signed : Bool) : Word :=
  widened n signed (BitVec.ofNat (8 * n) (number s.product.bigEndian (physicalBytes s ea n)))

/-- Memory after the low `n` bytes of `v` were stored at `ea`: those bytes of it and no other (20_memory.md R82, R83, R97); what
goes to a device is in no memory (log 51). -/
def Stored (s : State) (m : List Host.Cell) (ea : Word) (n : Nat) (v : Word) : Prop :=
  Memory.wf m = true ∧ ∀ a, memRead m a =
    if (Machine.translate ea).toNat ≤ a ∧ a < (Machine.translate ea).toNat + n ∧ s.product.isDevice a = false then
      BitVec.ofNat 8 (v.toNat / 256 ^ (if s.product.bigEndian then n - 1 - (a - (Machine.translate ea).toNat) else a - (Machine.translate ea).toNat))
    else memRead s.mem a

/-- The fetch window after a store that left memory as `m`: the bytes it changed, for the 8 instructions to come, and what was in
it before (20_memory.md R103). -/
def Remembered (s : State) (m : List Host.Cell) (w : List (Nat × Nat)) : Prop :=
  ∀ a n, (a, n) ∈ w ↔ (n = 8 ∧ memRead m a ≠ memRead s.mem a) ∨ (a, n) ∈ s.storeWindow

/-- A load: its destination, effective address, width in bytes, whether it sign-extends, and its length. -/
structure LoadForm where
  dest : Reg
  ea : Word
  width : Nat
  signed : Bool
  len : Word

/-- A store: its effective address, width in bytes, register value, and its length. -/
structure StoreForm where
  ea : Word
  width : Nat
  value : Word
  len : Word

/-- base + sign-extended offset (40_loadstore32.md R170). -/
def ea32 (s : State) (base : Reg) (offset : BitVec 16) : Word := s.reg base + BitVec.ofInt 32 offset.toInt

/-- base + offset times scale (45_loadstore16.md R331). -/
def eaShort (s : State) (base : Reg) (scale : Nat) (offset : Nat) : Word := s.reg base + BitVec.ofNat 32 (scale * offset)

/-- The base PC rounded down to a multiple of 4 (45_loadstore16.md R340). -/
def basePc (s : State) : Word := BitVec.ofNat 32 ((savedPc s).toNat / 4 * 4)

/-- The loads of the 32-bit ISA but for LWL and LWR. -/
def load32 (s : State) : Instr → Option LoadForm
  | .lb b rt o => some ⟨rt, ea32 s b o, 1, true, 4⟩
  | .lbu b rt o => some ⟨rt, ea32 s b o, 1, false, 4⟩
  | .lh b rt o => some ⟨rt, ea32 s b o, 2, true, 4⟩
  | .lhu b rt o => some ⟨rt, ea32 s b o, 2, false, 4⟩
  | .lw b rt o => some ⟨rt, ea32 s b o, 4, true, 4⟩
  | _ => none

/-- The loads of the 16-bit ISA. -/
def load16 (s : State) : Instr → Option LoadForm
  | .lb16 b r o => some ⟨xlat r, eaShort s (xlat b) 1 o.toNat, 1, true, 2⟩
  | .lbu16 b r o => some ⟨xlat r, eaShort s (xlat b) 1 o.toNat, 1, false, 2⟩
  | .lh16 b r o => some ⟨xlat r, eaShort s (xlat b) 2 o.toNat, 2, true, 2⟩
  | .lhu16 b r o => some ⟨xlat r, eaShort s (xlat b) 2 o.toNat, 2, false, 2⟩
  | .lw16 b r o => some ⟨xlat r, eaShort s (xlat b) 4 o.toNat, 4, true, 2⟩
  | .lwpc r o => some ⟨xlat r, basePc s + BitVec.ofNat 32 (4 * o.toNat), 4, true, 2⟩
  | .lwsp r o => some ⟨xlat r, eaShort s 29#5 4 o.toNat, 4, true, 2⟩
  | _ => none

/-- The extended loads of the 16-bit ISA. -/
def loadExtended (s : State) : Instr → Option LoadForm
  | .lbE b r o => some ⟨xlat r, ea32 s (xlat b) o, 1, true, 4⟩
  | .lbuE b r o => some ⟨xlat r, ea32 s (xlat b) o, 1, false, 4⟩
  | .lhE b r o => some ⟨xlat r, ea32 s (xlat b) o, 2, true, 4⟩
  | .lhuE b r o => some ⟨xlat r, ea32 s (xlat b) o, 2, false, 4⟩
  | .lwE b r o => some ⟨xlat r, ea32 s (xlat b) o, 4, true, 4⟩
  | .lwpcE r o => some ⟨xlat r, basePc s + BitVec.ofInt 32 o.toInt, 4, true, 4⟩
  | .lwspE r o => some ⟨xlat r, ea32 s 29#5 o, 4, true, 4⟩
  | _ => none

/-- The stores of the 32-bit ISA but for SWL and SWR. -/
def store32 (s : State) : Instr → Option StoreForm
  | .sb b rt o => some ⟨ea32 s b o, 1, s.reg rt, 4⟩
  | .sh b rt o => some ⟨ea32 s b o, 2, s.reg rt, 4⟩
  | .sw b rt o => some ⟨ea32 s b o, 4, s.reg rt, 4⟩
  | _ => none

/-- The stores of the 16-bit ISA. -/
def store16 (s : State) : Instr → Option StoreForm
  | .sb16 b r o => some ⟨eaShort s (xlat b) 1 o.toNat, 1, s.reg (xlat r), 2⟩
  | .sh16 b r o => some ⟨eaShort s (xlat b) 2 o.toNat, 2, s.reg (xlat r), 2⟩
  | .sw16 b r o => some ⟨eaShort s (xlat b) 4 o.toNat, 4, s.reg (xlat r), 2⟩
  | .swsp r o => some ⟨eaShort s 29#5 4 o.toNat, 4, s.reg (xlat r), 2⟩
  | .swrasp o => some ⟨eaShort s 29#5 4 o.toNat, 4, s.reg 31#5, 2⟩
  | _ => none

/-- The extended stores of the 16-bit ISA. -/
def storeExtended (s : State) : Instr → Option StoreForm
  | .sbE b r o => some ⟨ea32 s (xlat b) o, 1, s.reg (xlat r), 4⟩
  | .shE b r o => some ⟨ea32 s (xlat b) o, 2, s.reg (xlat r), 4⟩
  | .swE b r o => some ⟨ea32 s (xlat b) o, 4, s.reg (xlat r), 4⟩
  | .swspE r o => some ⟨ea32 s 29#5 o, 4, s.reg (xlat r), 4⟩
  | .swraspE o => some ⟨ea32 s 29#5 o, 4, s.reg 31#5, 4⟩
  | _ => none

/-- Any load but LWL and LWR. -/
def loadForm (s : State) (i : Instr) : Option LoadForm := (load32 s i).or ((load16 s i).or (loadExtended s i))

/-- Any store but SWL and SWR. -/
def storeForm (s : State) (i : Instr) : Option StoreForm := (store32 s i).or ((store16 s i).or (storeExtended s i))

/-- What a load that meets nothing in its way does: with no device at its bytes the register takes their value, and with one some
value, extended as the form says (log 51). -/
def Loads (i : Instr) (s : State) (f : LoadForm) : Prop :=
  Reachable s .load f.ea f.width (bytesFrom f.ea f.width) →
    (∃ v, exec i s = .next (doneAccess f.len (put s f.dest (widened f.width f.signed v)))) ∧
    ((∀ va ∈ bytesFrom f.ea f.width, s.onDevice va = false) →
      exec i s = .next (doneAccess f.len (put s f.dest (loaded s f.ea f.width f.signed))))

/-- What a store that meets nothing in its way does. -/
def Stores (i : Instr) (s : State) (f : StoreForm) : Prop :=
  Reachable s .store f.ea f.width (bytesFrom f.ea f.width) → Memory.wf s.mem = true →
    ∃ m w, exec i s = .next (doneAccess f.len { s with mem := m, storeWindow := w }) ∧ Stored s m f.ea f.width f.value ∧
      Remembered s m w

/-- Any load or store: its destination register if it is a load, its effective address, alignment, byte addresses and length. -/
structure AccessForm where
  dest : Option Reg
  ea : Word
  align : Nat
  bytes : List Word
  len : Word

/-- Load or store. -/
def AccessForm.kind (f : AccessForm) : AccessKind := if f.dest.isSome then .load else .store

/-- LWL, LWR, SWL and SWR, which have no alignment (40_loadstore32.md R177, R178, R182, R183). -/
def partialForm (s : State) : Instr → Option AccessForm
  | .lwl b rt o => some ⟨some rt, ea32 s b o, 1, leftBytes s.product.bigEndian (ea32 s b o), 4⟩
  | .lwr b rt o => some ⟨some rt, ea32 s b o, 1, rightBytes s.product.bigEndian (ea32 s b o), 4⟩
  | .swl b _ o => some ⟨none, ea32 s b o, 1, leftBytes s.product.bigEndian (ea32 s b o), 4⟩
  | .swr b _ o => some ⟨none, ea32 s b o, 1, rightBytes s.product.bigEndian (ea32 s b o), 4⟩
  | _ => none

/-- Every load and store of both ISAs. -/
def accessForm (s : State) (i : Instr) : Option AccessForm :=
  (partialForm s i).or (((loadForm s i).map fun f => ⟨some f.dest, f.ea, f.width, bytesFrom f.ea f.width, f.len⟩).or
    ((storeForm s i).map fun f => ⟨none, f.ea, f.width, bytesFrom f.ea f.width, f.len⟩))

/-- The access is admitted and meets a bus error (20_memory.md R97, 60_exceptions.md R466). -/
abbrev BusError (s : State) (f : AccessForm) : Prop := Admitted s f.ea f.align f.bytes ∧ s.busFails f.kind f.bytes = true

/-- Nothing stops a fetch of `n` bytes but a bus error or a recent store (20_memory.md R86, R92, R93). -/
abbrev Fetchable (s : State) (ea : Word) (n : Nat) : Prop :=
  Permitted s ea n ∧ (InReserved ea → ∀ va ∈ bytesFrom ea n, s.onDevice va = true)

/-- A store changed this byte too recently for a fetch (20_memory.md R103). -/
abbrev Recent (s : State) (va : Word) : Prop := ∃ e ∈ s.storeWindow, e.1 = (Machine.translate va).toNat

/-! ### Vocabulary: arithmetic -/

/-- The signed value fits a register. -/
abbrev Fits (v : Int) : Prop := -2 ^ 31 ≤ v ∧ v < 2 ^ 31

/-- 1 where the condition holds, else 0. -/
def truth (p : Prop) [Decidable p] : Word := if p then 1 else 0

/-- What DIV leaves in LO and HI where the spec gives a result (42_shift_muldiv32.md R230). -/
def DividedSigned (a b lo hi : Word) : Prop :=
  a.toInt = lo.toInt * b.toInt + hi.toInt ∧ hi.toInt.natAbs < b.toInt.natAbs ∧ (hi.toInt = 0 ∨ (hi.toInt < 0 ↔ a.toInt < 0))

/-- What DIVU leaves in LO and HI where the spec gives a result (R231). -/
def DividedUnsigned (a b lo hi : Word) : Prop := a.toNat = lo.toNat * b.toNat + hi.toNat ∧ hi.toNat < b.toNat

/-- The target of a 32-bit branch with this offset (43_jump_branch32.md R256). -/
def target32 (s : State) (offset : BitVec 16) : Word := BitVec.ofInt 32 (s.pc.toInt + 4 + 4 * offset.toInt)

/-- The target of J, JAL and JALX; `isa` is the new ISA-mode bit (R256). -/
def targetRegion (s : State) (target : BitVec 26) (isa : Bool) : Word :=
  BitVec.ofNat 32 ((s.pc + 4).toNat / 2 ^ 28 * 2 ^ 28 + 4 * target.toNat + isa.toNat)

/-- A general branch (R250, R251). -/
def Branches (i : Instr) (s : State) (taken : Prop) (offset : BitVec 16) : Prop :=
  s.slot = none → (taken → exec i s = .next (jumped 4 (target32 s offset) false s))
    ∧ (¬ taken → exec i s = .next (jumped 4 (s.pc + 8) false s))

/-- A branch-likely (R250, R251, R271). -/
def BranchesLikely (i : Instr) (s : State) (taken : Prop) (offset : BitVec 16) : Prop :=
  s.slot = none → (taken → exec i s = .next (jumped 4 (target32 s offset) false s))
    ∧ (¬ taken → exec i s = .next (jumped 4 (s.pc + 8) true s))

/-- A 16-bit branch (48_jump_branch16.md R408). -/
def Branches16 (i : Instr) (s : State) (len : Nat) (taken : Prop) (offset : Int) : Prop :=
  s.slot = none → (taken → exec i s = .next (branched (BitVec.ofInt 32 (s.pc.toInt + len + 2 * offset)) s))
    ∧ (¬ taken → exec i s = .next (branched (BitVec.ofInt 32 (s.pc.toInt + len)) s))

/-! ### Vocabulary: coprocessors -/

/-- An instruction of coprocessor z is usable (44_coproc_special32.md R290): Status.CU[z], or for CP0 kernel mode. -/
abbrev Usable (s : State) (z : BitVec 2) : Prop := s.status.getLsbD (28 + z.toNat) = true ∨ (z = 0#2 ∧ s.userMode = false)

/-- Coprocessor z is usable and the product has it (R290, R291). -/
abbrev Present (s : State) (z : BitVec 2) : Prop := Usable s z ∧ (s.cop z).present = true

/-- The coprocessor of an instruction with a usability check (R290). -/
def coprocessorOf : Instr → Option (BitVec 2)
  | .mfc0 _ _ | .mtc0 _ _ | .cfc0 _ _ | .ctc0 _ _ | .bc0f _ | .bc0t _ | .bc0fl _ | .bc0tl _ | .rfe | .deret
  | .tlbr | .tlbwi | .tlbwr | .tlbp | .cache _ _ _ => some 0#2
  | .mfc1 _ _ | .mtc1 _ _ | .cfc1 _ _ | .ctc1 _ _ | .cop1 _ | .bc1f _ | .bc1t _ | .bc1fl _ | .bc1tl _ => some 1#2
  | .mfc2 _ _ | .mtc2 _ _ | .cfc2 _ _ | .ctc2 _ _ | .cop2 _ | .bc2f _ | .bc2t _ | .bc2fl _ | .bc2tl _ => some 2#2
  | .mfc3 _ _ | .mtc3 _ _ | .cfc3 _ _ | .ctc3 _ _ | .cop3 _ | .bc3f _ | .bc3t _ | .bc3fl _ | .bc3tl _ => some 3#2
  | _ => none

/-- A jump or branch, as one word or one halfword, other than JALR, the linking branches of the 32-bit ISA and the coprocessor
branches, which have checks that come first. -/
def isTransfer : Instr → Bool
  | .j _ | .jal _ | .jalx _ | .jr _ | .beq _ _ _ | .bne _ _ _ | .blez _ _ | .bgtz _ _ | .bltz _ _ | .bgez _ _
  | .bltzl _ _ | .bgezl _ _ | .beql _ _ _ | .bnel _ _ _ | .blezl _ _ | .bgtzl _ _
  | .jr16 _ | .jrra | .jalr16 _ | .beqz _ _ | .bnez _ _ | .bteqz _ | .btnez _ | .b _ => true
  | _ => false

/-- A jump or branch with a checked register: JALR with rd other than rs, a linking branch that does not test r31. -/
def isLinkTransfer : Instr → Bool
  | .jalr rs rd => rd != rs
  | .bltzal rs _ | .bgezal rs _ | .bltzall rs _ | .bgezall rs _ => rs != 31#5
  | _ => false

/-- The coprocessor of a coprocessor branch or of DERET. -/
def coprocessorTransfer : Instr → Option (BitVec 2)
  | .bc0f _ | .bc0t _ | .bc0fl _ | .bc0tl _ | .deret => some 0#2
  | .bc1f _ | .bc1t _ | .bc1fl _ | .bc1tl _ => some 1#2
  | .bc2f _ | .bc2t _ | .bc2fl _ | .bc2tl _ => some 2#2
  | .bc3f _ | .bc3t _ | .bc3fl _ | .bc3tl _ => some 3#2
  | _ => none

/-! ### Vocabulary: what an instruction reads -/

/-- The registers a 32-bit instruction reads, from its Operation in 40_loadstore32.md to 44_coproc_special32.md. -/
def reads32 : Instr → List Reg
  | .lb r _ _ | .lbu r _ _ | .lh r _ _ | .lhu r _ _ | .lw r _ _ | .cache r _ _ | .addi r _ _ | .addiu r _ _ | .slti r _ _ | .sltiu r _ _
  | .andi r _ _ | .ori r _ _ | .xori r _ _ | .sll r _ _ | .srl r _ _ | .sra r _ _ | .mthi r | .mtlo r | .jr r | .jalr r _
  | .blez r _ | .bgtz r _ | .bltz r _ | .bgez r _ | .bltzal r _ | .bgezal r _
  | .blezl r _ | .bgtzl r _ | .bltzl r _ | .bgezl r _ | .bltzall r _ | .bgezall r _
  | .mtc0 r _ | .ctc0 r _ | .mtc1 r _ | .ctc1 r _ | .mtc2 r _ | .ctc2 r _ | .mtc3 r _ | .ctc3 r _ => [r]
  | .sb a b _ | .sh a b _ | .sw a b _ | .swl a b _ | .swr a b _ | .lwl a b _ | .lwr a b _
  | .add a b _ | .addu a b _ | .sub a b _ | .subu a b _ | .and a b _ | .or a b _ | .xor a b _ | .nor a b _ | .slt a b _ | .sltu a b _
  | .sllv a b _ | .srlv a b _ | .srav a b _ | .mult a b _ | .multu a b _ | .madd a b _ | .maddu a b _ | .div a b | .divu a b
  | .beq a b _ | .bne a b _ | .beql a b _ | .bnel a b _ => [a, b]
  | _ => []

/-- The registers a 16-bit instruction reads, unextended or extended, from its Operation in 45_loadstore16.md to
48_jump_branch16.md: r29 is sp, r31 is ra, r24 is t8. -/
def reads16 : Instr → List Reg
  | .lb16 r _ _ | .lbu16 r _ _ | .lh16 r _ _ | .lhu16 r _ _ | .lw16 r _ _ | .lbE r _ _ | .lbuE r _ _ | .lhE r _ _ | .lhuE r _ _ | .lwE r _ _
  | .addiu3 r _ _ | .addiu8 r _ | .slti16 r _ | .sltiu16 r _ | .cmpi16 r _ | .neg16 _ r | .not16 _ r | .mov32r _ r
  | .addiu3E r _ _ | .addiu8E r _ | .sltiE r _ | .sltiuE r _ | .cmpiE r _
  | .sll16 _ r _ | .srl16 _ r _ | .sra16 _ r _ | .sllE _ r _ | .srlE _ r _ | .sraE _ r _
  | .jr16 r | .jalr16 r | .beqz r _ | .bnez r _ | .beqzE r _ | .bnezE r _ => [xlat r]
  | .sb16 a b _ | .sh16 a b _ | .sw16 a b _ | .sbE a b _ | .shE a b _ | .swE a b _ | .addu16 a b _ | .subu16 a b _
  | .slt16 a b | .sltu16 a b | .cmp16 a b | .and16 a b | .or16 a b | .xor16 a b | .sllv16 a b | .srlv16 a b | .srav16 a b
  | .mult16 a b | .multu16 a b | .div16 a b | .divu16 a b => [xlat a, xlat b]
  | .lwsp _ _ | .lwspE _ _ | .addiusp _ _ | .addiuspE _ _ | .adjsp _ | .adjspE _ => [29#5]
  | .swsp r _ | .swspE r _ => [29#5, xlat r]
  | .swrasp _ | .swraspE _ => [29#5, 31#5]
  | .movr32 _ r => [r]
  | .jrra => [31#5]
  | .bteqz _ | .btnez _ | .bteqzE _ | .btnezE _ => [24#5]
  | _ => []

/-- The instruction waits for a load into `dest`: it is SYNC, or reads that register, which is not r0 (60_exceptions.md R466). -/
def WaitsFor (dest : Reg) (i : Instr) : Prop := i = .sync ∨ (dest ≠ 0#5 ∧ (dest ∈ reads32 i ∨ dest ∈ reads16 i))

/-! ### Vocabulary: interrupts (60_exceptions.md R475, R477) -/

/-- The level of a software interrupt. -/
def levelOf (i : BitVec 2) : Nat := if i.toNat = 3 then 4 else 1

/-- Maskable interrupts are enabled. -/
abbrev Enabled (s : State) : Prop := BitVec.getLsbD s.debug 30 = false ∧ s.status.getLsbD 0 = true

/-- Status.CMask as a number. -/
def maskLevel (s : State) : Nat := (s.status.extractLsb' 13 3).toNat

/-- The hardware request is acceptable. -/
abbrev HwAcceptable (s : State) : Prop := Enabled s ∧ maskLevel s < s.irqLevel.toNat

/-- Software interrupt i is acceptable. -/
abbrev SwAcceptable (s : State) (i : BitVec 2) : Prop :=
  Enabled s ∧ s.cause.getLsbD (8 + i.toNat) = true ∧ s.status.getLsbD (8 + i.toNat) = true ∧ maskLevel s < levelOf i

/-- Nothing of these comes before the next instruction at this boundary: a nullified slot, Halt or Doze, a data bus error to be
taken, a single step (60_exceptions.md R450, R487, R506). -/
abbrev Running (s : State) : Prop :=
  (∀ k, s.slot = some k → k.nullify = false) ∧ s.stopped = false ∧ s.dbeDue = none ∧ s.singleStepDue = false

/-- The exception vectors (R445). -/
def vectors : List Word :=
  [0xBFC00000, 0xBFC00200, 0x80000110, 0x80000120, 0x80000130, 0x80000140, 0x80000160, 0x80000080,
   0xBFC00210, 0xBFC00220, 0xBFC00230, 0xBFC00240, 0xBFC00260, 0xBFC00180]

end Sys2Proof.Spec

section Slice0

open Sys2Proof Sys2Proof.Machine Sys2Proof.Spec

/-! ### Encoding -/

/-- Every well-formed instruction, laid out in bytes in either byte order and followed by any bytes, is read back as itself
(30_encoding.md, 20_memory.md R82 to R84). -/
def Obligations.DecodeReadsEncodedBytes : Prop :=
  ∀ (i : Instr) (big : Bool) (rest : List Byte), i.wf = true →
    (codeOfBytes big (encode i).isa16 ((encode i).bytes big ++ rest)).map decodeCode = some (.instr i)

/-- Each code that decodes to an instruction is that instruction's encoding, and the instruction is well-formed: no bit of a
code is ignored. That a word with a non-zero should-be-zero field is refused, and not read with the field ignored, is a choice: the
source is silent, and the spec's decision D14 refuses (30_encoding.md R132, U25; log 47). -/
def Obligations.DecodedCodeIsEncoding : Prop :=
  ∀ (c : Code) (i : Instr), decodeCode c = .instr i → i.wf = true ∧ encode i = c

/-- Words written out from the spec's encodings decode to the instructions they stand for (95_test_vectors.md). -/
def Obligations.SampleWordsDecode : Prop :=
  decode32 0x8D090004 = .instr (.lw 8#5 9#5 4#16) ∧ decode32 0x00432020 = .instr (.add 2#5 3#5 4#5) ∧
  decode32 0x00021C03 = .instr (.sra 2#5 3#5 16#5) ∧ decode32 0x70432001 = .instr (.maddu 2#5 3#5 4#5) ∧
  decode32 0x0040F809 = .instr (.jalr 2#5 31#5) ∧ decode32 0x0513FF00 = .instr (.bgezall 8#5 0xFF00#16) ∧
  decode32 0x4502FF00 = .instr (.bc1fl 0xFF00#16) ∧ decode32 0x409A6000 = .instr (.mtc0 26#5 12#5) ∧
  decode32 0x4200001F = .instr .deret ∧ decode32 0x0000000E = .instr (.sdbbp 0#20) ∧
  decode16 0x9A61 = .instr (.lw16 2#3 3#3 1#5) ∧ decode16 0x6201 = .instr (.swrasp 1#8) ∧
  decode16 0x65FB = .instr (.mov32r 31#5 3#3) ∧ decode16 0xEB98 = .instr (.mult16 3#3 4#3) ∧
  decode16 0x17FC = .instr (.b 0x7FC#11) ∧ decode16 0xE8A1 = .instr (.sdbbp16 5#6) ∧
  decodePair 0x1902 0xD15A = .instr (.jal16 0x48D15A#26) ∧ decodePair 0xF222 0x4B14 = .instr (.addiu8E 3#3 0x1234#16) ∧
  decodePair 0xF400 0x3340 = .instr (.sllE 3#3 2#3 16#5)

/-- The undefined major opcodes and SPECIAL functions, the undefined BCOND sub-opcodes and functions of opcode 011100, and the
reserved halfwords of the 16-bit ISA decode to no instruction but to Reserved Instruction, and the undefined sub-opcodes of a
coprocessor to Reserved Instruction behind its usability check (30_encoding.md R123 to R126, R128, 49_special_extend16.md R427). That
the sub-encodings of R125, R126, R128 and some of R148 raise it is the spec's decision D12. What a step does with them says
StepRunsDecodedInstruction. -/
def Obligations.ReservedEncodings : Prop :=
  (∀ w : Word, (w.extractLsb' 26 6).toNat ∈ [24, 25, 26, 27, 30, 31, 39, 44, 45, 52, 53, 54, 55, 60, 61, 62, 63] → decode32 w = .reserved) ∧
  (∀ w : Word, w.extractLsb' 26 6 = 0#6 → ((w.extractLsb' 0 6).toNat ∈ [1, 5, 10, 11, 20, 21, 22, 23, 28, 29, 30, 31, 40, 41, 44, 45, 46, 47]
    ∨ 48 ≤ (w.extractLsb' 0 6).toNat) → decode32 w = .reserved) ∧
  (∀ w : Word, w.extractLsb' 26 6 = 1#6 → (w.extractLsb' 16 5).toNat ∉ [0, 1, 2, 3, 16, 17, 18, 19] → decode32 w = .reserved) ∧
  (∀ w : Word, w.extractLsb' 26 6 = 28#6 → 2 ≤ (w.extractLsb' 0 6).toNat → decode32 w = .reserved) ∧
  (∀ w : Word, w.extractLsb' 28 4 = 4#4 → ((w.extractLsb' 21 5).toNat ∈ [1, 3, 5, 7, 9, 10, 11, 12, 13, 14, 15]
    ∨ (w.extractLsb' 21 5 = 8#5 ∧ 4 ≤ (w.extractLsb' 16 5).toNat)) → decode32 w = .reservedCop (w.extractLsb' 26 2)) ∧
  (∀ h : Half, (h.extractLsb' 11 5).toNat ∈ [7, 15, 23, 31] → decode16 h = .reserved) ∧
  (∀ h : Half, h.extractLsb' 11 5 = 6#5 → h.extractLsb' 0 2 = 1#2 → decode16 h = .reserved) ∧
  (∀ h : Half, h.extractLsb' 11 5 = 8#5 → h.extractLsb' 4 1 = 1#1 → decode16 h = .reserved) ∧
  (∀ h : Half, h.extractLsb' 11 5 = 28#5 → h.extractLsb' 0 1 = 0#1 → decode16 h = .reserved) ∧
  (∀ h : Half, h.extractLsb' 11 5 = 12#5 → (h.extractLsb' 8 3).toNat ∈ [4, 6] → decode16 h = .reserved) ∧
  (∀ h : Half, h.extractLsb' 11 5 = 29#5 → (h.extractLsb' 0 5).toNat ∈ [8, 9, 17, 19, 20, 21, 22, 23, 28, 29, 30, 31] → decode16 h = .reserved) ∧
  (∀ h : Half, h.extractLsb' 11 5 = 29#5 → h.extractLsb' 0 5 = 0#5 → 3 ≤ (h.extractLsb' 5 3).toNat → decode16 h = .reserved)

/-- The 3-bit register numbers of the 16-bit ISA (30_encoding.md R136). -/
def Obligations.RegisterMap16 : Prop :=
  ∀ c : Reg3, (xlat c).toNat = if c.toNat < 2 then 16 + c.toNat else c.toNat

/-! ### The step around an instruction -/

/-- The fetch finds the instruction stored at the program counter: where its bytes stand there, the ISA mode is its own, and no
byte of it is out of reach (in kernel space in user mode, in a reserved range on no device, answered with a bus error, changed by a
recent store), it is the code fetched (20_memory.md R86, R92, R97, 49_special_extend16.md R426). That its bytes are read in the byte
order of data is a choice of the spec, decision D4 in R84: the source names no order for instructions. The second part is where the
fetch of the word, or of the first halfword, stops: in a reserved range with a byte on no device (R93; D26), and where a recent store
changed one of its bytes (R103; D5). The third says the same of the second halfword of a pair, and that it meets an address error of
its own (R425(f)). Bus errors are FetchExceptions'. -/
def Obligations.FetchReadsStoredInstruction : Prop :=
  (∀ (s : State) (i : Instr), let bytes := (encode i).bytes s.product.bigEndian
    let own := bytesFrom s.instrAddr bytes.length
    i.wf = true → s.isa16 = (encode i).isa16 → (s.isa16 = false → s.instrAddr.toNat % 4 = 0) →
    (∀ va ∈ own, (s.userMode = true → va.toNat < 2 ^ 31) ∧ (InReserved va → s.onDevice va = true) ∧ ¬ Recent s va) →
    s.busFails .fetch own = false →
    (∀ n b, bytes[n]? = some b → s.byteAt (s.instrAddr + BitVec.ofNat 32 n) = b) → s.fetch = .code (encode i) false) ∧
  (∀ s : State, let own := bytesFrom s.instrAddr (if s.isa16 then 2 else 4)
    Permitted s s.instrAddr (if s.isa16 then 2 else 4) →
    (InReserved s.instrAddr → (∃ va ∈ own, s.onDevice va = false) → s.fetch = .reserved) ∧
    ((InReserved s.instrAddr → ∀ va ∈ own, s.onDevice va = true) → s.busFails .fetch own = false → (∃ va ∈ own, Recent s va) →
      s.fetch = .stale)) ∧
  (∀ s : State, let a := s.instrAddr
    s.isa16 = true → Fetchable s a 2 → s.busFails .fetch (bytesFrom a 2) = false → (∀ va ∈ bytesFrom a 2, ¬ Recent s va) →
    isFirstOfTwo (s.halfAt a) = true →
    (¬ Permitted s (a + 2) 2 → s.fetch = .addressError (a + 2)) ∧
    (Permitted s (a + 2) 2 → InReserved (a + 2) → (∃ va ∈ bytesFrom (a + 2) 2, s.onDevice va = false) → s.fetch = .reserved) ∧
    (Fetchable s (a + 2) 2 → s.busFails .fetch (bytesFrom (a + 2) 2) = false → (∃ va ∈ bytesFrom (a + 2) 2, Recent s va) →
      s.fetch = .stale))

/-- A step runs the decoded instruction: where no RESET arrives, nothing comes before the next instruction, no interrupt is
due and the fetch gives a code that decodes to an instruction, the step is that instruction's execution, in the state with the
inputs of the boundary taken in and the counts of R103 and R536(d) one lower, and with Debug.BsF set where the fetch failed in debug
mode (60_exceptions.md R495(a), log 16; FetchExceptions says when). A code that decodes as reserved takes Reserved Instruction with
EPC at it, for a coprocessor behind the usability check, and in debug mode stops (30_encoding.md R131, R149, 60_exceptions.md R468;
U14). A non-zero should-be-zero field, an unlisted COP0 operation, a reserved range and a byte stored too recently stop, all by
decisions of the spec (D14, D13, D26, D5); where the first two stand in a word of a coprocessor, its usability check comes first. -/
def Obligations.StepRunsDecodedInstruction : Prop :=
  ∀ s : State, let u := s.sample
    let start := fun failed => State.age { u with debug := if failed then u.debug ||| 1#32 <<< 10 else u.debug }
    (∀ v : State, v.age = { v with depcWait := v.depcWait - 1, storeWindow := v.age.storeWindow } ∧
      ∀ a n, (a, n) ∈ v.age.storeWindow ↔ 0 < n ∧ (a, n + 1) ∈ v.storeWindow) ∧
    (s.resetDue = false → Running u → u.nmiDue = false → u.acceptedInterrupt = none →
      (∀ c failed, u.fetch = .code c failed →
        (∀ i, decodeCode c = .instr i → step s = exec i (start failed)) ∧
        (decodeCode c = .reserved → u.debugMode = false → ∃ t, step s = .next t ∧ Entered (start failed) t 10#5 none u.badVAddr) ∧
        (decodeCode c = .reserved → u.debugMode = true → step s = .fault .exceptionInDebugMode) ∧
        (∀ z, decodeCode c = .reservedCop z → Usable u z → u.debugMode = false →
          ∃ t, step s = .next t ∧ Entered (start failed) t 10#5 none u.badVAddr) ∧
        (∀ z, decodeCode c = .reservedCop z → u.debugMode = true → step s = .fault .exceptionInDebugMode) ∧
        (decodeCode c = .nonZeroField → step s = .refused .nonZeroField) ∧
        (∀ z, decodeCode c = .nonZeroFieldCop z → Usable u z → step s = .refused .nonZeroField) ∧
        (decodeCode c = .unlistedCop0 → Usable u 0#2 → step s = .refused .unlistedCop0Operation) ∧
        (∀ z, (decodeCode c = .reservedCop z ∨ decodeCode c = .nonZeroFieldCop z ∨ (decodeCode c = .unlistedCop0 ∧ z = 0#2)) →
          ¬ Usable u z →
          (u.debugMode = false → ∃ t, step s = .next t ∧ Entered (start failed) t 11#5 (some z) u.badVAddr) ∧
          (u.debugMode = true → step s = .fault .exceptionInDebugMode))) ∧
      (u.fetch = .reserved → step s = .refused .reservedAddress) ∧ (u.fetch = .stale → step s = .fault .storeIntoFetchWindow))

/-- Where the delay slot of an untaken branch-likely is next, the step skips it, without a fetch, to the address behind it
(43_jump_branch32.md R250, R251). That the skip is a step of its own, before any exception that is due at the same boundary, is the
model's choice (log 35); an interrupt is then taken behind the slot with BD = 0, as R444 says. -/
def Obligations.NullifiedSlotIsSkipped : Prop :=
  ∀ (s : State) (k : Slot), s.resetDue = false → s.sample.slot = some k → k.nullify = true →
    step s = .next { s.sample with pc := k.target, slot := none }

/-- The invariant holds after reset (10_state.md R21, R34, R40, R49, R59, R68, R76). -/
def Obligations.InvariantHoldsAtReset : Prop := State.reset.Inv

/-- Every step keeps the invariant: memory stays canonical, r0 stays 0, the reserved bits of Status, Config, Cause and Debug
stay 0, and Halt and Doze are never set together. -/
def Obligations.StepKeepsInvariant : Prop := ∀ s t : State, s.Inv → step s = .next t → t.Inv

/-- User code with Status.CU[0] = 0 reaches no privileged state: a step without inputs either ends in kernel mode at an
exception vector, or leaves every CP0 register and the modes as they are; and in both cases no byte outside kuseg's image
0x40000000 to 0xBFFFFFFF changes (60_exceptions.md R509 to R511, 20_memory.md R90, R92). -/
def Obligations.UserModeIsConfined : Prop :=
  ∀ s t : State, s.userMode = true → s.status.getLsbD 28 = false → s.inputs = [] → s.stopped = false →
    (∀ k, s.slot = some k → k.leavesDebug = false) → step s = .next t →
    ((t.userMode = false ∧ t.pc ∈ vectors) ∨
      (t.status = s.status ∧ t.cause = s.cause ∧ t.epc = s.epc ∧ t.badVAddr = s.badVAddr ∧ t.config = s.config
        ∧ t.debug = s.debug ∧ t.depc = s.depc)) ∧
    ∀ a, a < 0x40000000 ∨ 0xC0000000 ≤ a → memRead t.mem a = memRead s.mem a

/-! ### Registers and memory -/

/-- What an instruction reads from a general register: 0 from r0, else the register, unless the instruction directly before
loaded it by MFC0 (10_state.md R21, 70_reset_and_hazards.md R536(a)). -/
def Obligations.RegisterRead : Prop :=
  ∀ (s : State) (r : Reg), s.reg 0#5 = 0 ∧
    (r ≠ 0#5 → (∀ rd, s.prev ≠ .mfc0 r rd) → s.reg r = s.gpr[r.toNat]'r.isLt)

/-- The fixed address translation (20_memory.md R91). -/
def Obligations.Translation : Prop :=
  ∀ va : Word, (va.toNat < 0x80000000 → (Machine.translate va).toNat = va.toNat + 0x40000000) ∧
    (0x80000000 ≤ va.toNat ∧ va.toNat < 0xC0000000 → (Machine.translate va).toNat = va.toNat % 2 ^ 29) ∧
    (0xC0000000 ≤ va.toNat → Machine.translate va = va)

/-- Every load but LWL and LWR, of both ISAs, where the access meets nothing (an extended one outside a delay slot): the
destination takes the value of the bytes in the byte order of the product, sign- or zero-extended, and nothing else changes. LB,
LBU, LH, LHU, LW of the 32-bit ISA (40_loadstore32.md R170, R171, R173 to R176, R179); LB, LBU, LH, LHU and LW from a register, the
base PC and sp of the 16-bit ISA, unextended and extended (45_loadstore16.md R335 to R342). Which addresses are devices is the
platform's, and that a device delivers some value is the model's choice (log 51). Where loads trap or stop say AddressErrors and
DataBusErrors. -/
def Obligations.Loads : Prop :=
  ∀ (i : Instr) (s : State) (f : LoadForm), loadForm s i = some f → (twoHalves i = true → s.slot = none) → Spec.Loads i s f

/-- LWL and LWR byte by byte: byte n of the register (0 the least significant) is taken from memory where it belongs to the left
or right part, else stays (40_loadstore32.md R177, R178). -/
def Obligations.LoadWordLeftRight : Prop :=
  ∀ (base rt : Reg) (o : BitVec 16) (s : State), let ea := ea32 s base o
    let a := ea.toNat % 4
    let old := fun n => (s.reg rt).extractLsb' (8 * n) 8
    (Reachable s .load ea 1 (leftBytes s.product.bigEndian ea) →
      ∃ v, exec (.lwl base rt o) s = .next (doneAccess 4 (put s rt v)) ∧ ∀ n, n < 4 →
        v.extractLsb' (8 * n) 8 = (if s.product.bigEndian then
            (if a ≤ n then s.byteAt (ea + BitVec.ofNat 32 (3 - n)) else old n)
          else (if 3 - a ≤ n then s.byteAt (ea - BitVec.ofNat 32 (3 - n)) else old n))) ∧
    (Reachable s .load ea 1 (rightBytes s.product.bigEndian ea) →
      ∃ v, exec (.lwr base rt o) s = .next (doneAccess 4 (put s rt v)) ∧ ∀ n, n < 4 →
        v.extractLsb' (8 * n) 8 = (if s.product.bigEndian then
            (if n ≤ a then s.byteAt (ea - BitVec.ofNat 32 n) else old n)
          else (if n ≤ 3 - a then s.byteAt (ea + BitVec.ofNat 32 n) else old n)))

/-- Every store but SWL and SWR, of both ISAs, where the access meets nothing (an extended one outside a delay slot): exactly the
addressed bytes change, to the low bytes of the register in the byte order of the product. SB, SH, SW of the 32-bit ISA
(40_loadstore32.md R170, R172, R180, R181, R185); SB, SH and SW to a register address and to sp, and SW ra to sp, of the 16-bit ISA,
unextended and extended (45_loadstore16.md R343 to R347). Each byte it changes is in the fetch
window for 8 instructions (20_memory.md R103, decision D5; log 25). That what goes to a device changes no memory is the model's choice
(log 51). Where stores trap or stop say AddressErrors and DataBusErrors. -/
def Obligations.Stores : Prop :=
  ∀ (i : Instr) (s : State) (f : StoreForm), storeForm s i = some f → (twoHalves i = true → s.slot = none) → Spec.Stores i s f

/-- SWL and SWR byte by byte, by physical address `p` of the effective address: SWL stores the register's bytes 3, 2, … from p up
(big-endian) or down (little-endian) to the end of the word, SWR its bytes 0, 1, … from p down or up; every other byte of memory
stays (40_loadstore32.md R182, R183); what goes to a device changes no memory (log 51). Each byte changed is in the fetch window for 8
instructions (20_memory.md R103, decision D5; log 25). -/
def Obligations.StoreWordLeftRight : Prop :=
  ∀ (base rt : Reg) (o : BitVec 16) (s : State), let ea := ea32 s base o
    let a := ea.toNat % 4
    let p := (Machine.translate ea).toNat
    let byte := fun n => BitVec.ofNat 8 ((s.reg rt).toNat / 256 ^ n)
    Memory.wf s.mem = true →
    (Reachable s .store ea 1 (leftBytes s.product.bigEndian ea) →
      ∃ m w, exec (.swl base rt o) s = .next (doneAccess 4 { s with mem := m, storeWindow := w }) ∧ Remembered s m w ∧ ∀ x, memRead m x =
        if s.product.isDevice x = true then memRead s.mem x
        else if s.product.bigEndian = true ∧ p ≤ x ∧ x ≤ p + (3 - a) then byte (3 - (x - p))
        else if s.product.bigEndian = false ∧ p - a ≤ x ∧ x ≤ p then byte (3 - (p - x))
        else memRead s.mem x) ∧
    (Reachable s .store ea 1 (rightBytes s.product.bigEndian ea) →
      ∃ m w, exec (.swr base rt o) s = .next (doneAccess 4 { s with mem := m, storeWindow := w }) ∧ Remembered s m w ∧ ∀ x, memRead m x =
        if s.product.isDevice x = true then memRead s.mem x
        else if s.product.bigEndian = true ∧ p - a ≤ x ∧ x ≤ p then byte (p - x)
        else if s.product.bigEndian = false ∧ p ≤ x ∧ x ≤ p + (3 - a) then byte (x - p)
        else memRead s.mem x)

/-- Where a load or store may not make its access, of every form of both ISAs (an extended one outside a delay slot): misaligned, or
in user mode at an address with bit 31 set, it takes AdEL or AdES with BadVAddr its effective address, and no register but BadVAddr,
Cause, EPC and Status changes and no byte of memory; LWL, LWR, SWL and SWR have no alignment (20_memory.md R85, R87, R92,
60_exceptions.md R465). In debug mode that exception stops (R495(f), U14); an access in a reserved range with a byte on no device
stops (20_memory.md R93, U26: the spec's decision D26), and any access directly behind an MTC0 that changed Status.KUc (R105,
U21). -/
def Obligations.AddressErrors : Prop :=
  ∀ (i : Instr) (s : State) (f : AccessForm), accessForm s i = some f → (twoHalves i = true → s.slot = none) →
    (s.prev.changedMode = false → ¬ Permitted s f.ea f.align →
      (s.debugMode = false → Traps i s (if f.kind = .load then 4#5 else 5#5) none f.ea) ∧
      (s.debugMode = true → exec i s = .fault .exceptionInDebugMode)) ∧
    (s.prev.changedMode = false → Permitted s f.ea f.align → InReserved f.ea → (∃ va ∈ f.bytes, s.onDevice va = false) →
      exec i s = .refused .reservedAddress) ∧
    (s.prev.changedMode = true → exec i s = .fault .modeChangeBesideAccess)

/-- A load or store of any form, LWL, LWR, SWL and SWR too, that meets a bus error completes, the load with any value in its whole
register, the store with any value in its bytes and no other byte changed. A data bus error is then pending, or in debug mode
Debug.BsF is set instead; for a store of a product with a write buffer neither happens (60_exceptions.md R466, R495(a)). That it
completes and leaves the failed bytes at any value is the spec's decision D28 (U31; log 33). -/
def Obligations.DataBusErrors : Prop :=
  ∀ (i : Instr) (s : State) (f : AccessForm), accessForm s i = some f → (twoHalves i = true → s.slot = none) → BusError s f →
    (∀ d, f.dest = some d →
      ∃ v, exec i s = .next (doneAccess f.len (if s.debugMode then { put s d v with debug := s.debug ||| 1#32 <<< 10 }
        else { put s d v with dbe := some (.load d) }))) ∧
    (f.dest = none → Memory.wf s.mem = true →
      ∃ m w, exec i s = .next (doneAccess f.len (if s.product.writeBuffer then { s with mem := m, storeWindow := w }
          else if s.debugMode then { s with mem := m, storeWindow := w, debug := s.debug ||| 1#32 <<< 10 }
          else { s with mem := m, storeWindow := w, dbe := some .store })) ∧ Remembered s m w ∧
        ∀ a, (∀ va ∈ f.bytes, a ≠ (Machine.translate va).toNat) → memRead m a = memRead s.mem a)

/-! ### Arithmetic of the 32-bit ISA -/

/-- ADD, ADDI and SUB: where the exact signed result fits 32 bits the destination takes it, else Integer Overflow is taken and no
register but those of the exception changes; in debug mode it stops instead (41_alu32.md R190, R191, R193, R201, 60_exceptions.md
R470, R495(f); U14). -/
def Obligations.TrappingArithmetic : Prop :=
  ∀ (rs rt rd : Reg) (imm : BitVec 16) (s : State),
    let sum := (s.reg rs).toInt + (s.reg rt).toInt
    let dif := (s.reg rs).toInt - (s.reg rt).toInt
    let sumImm := (s.reg rs).toInt + imm.toInt
    (Fits sum → exec (.add rs rt rd) s = .next (done 4 (put s rd (BitVec.ofInt 32 sum)))) ∧
    (¬ Fits sum → s.debugMode = false → Traps (.add rs rt rd) s 12#5 none s.badVAddr) ∧
    (Fits dif → exec (.sub rs rt rd) s = .next (done 4 (put s rd (BitVec.ofInt 32 dif)))) ∧
    (¬ Fits dif → s.debugMode = false → Traps (.sub rs rt rd) s 12#5 none s.badVAddr) ∧
    (Fits sumImm → exec (.addi rs rt imm) s = .next (done 4 (put s rt (BitVec.ofInt 32 sumImm)))) ∧
    (¬ Fits sumImm → s.debugMode = false → Traps (.addi rs rt imm) s 12#5 none s.badVAddr) ∧
    (s.debugMode = true → (¬ Fits sum → exec (.add rs rt rd) s = .fault .exceptionInDebugMode) ∧
      (¬ Fits dif → exec (.sub rs rt rd) s = .fault .exceptionInDebugMode) ∧
      (¬ Fits sumImm → exec (.addi rs rt imm) s = .fault .exceptionInDebugMode))

/-- ADDU, SUBU, AND, OR, XOR, NOR, SLT and SLTU write only rd, in every state (41_alu32.md R192, R194 to R200). -/
def Obligations.RegisterArithmetic : Prop :=
  ∀ (rs rt rd : Reg) (s : State), let a := s.reg rs
    let b := s.reg rt
    exec (.addu rs rt rd) s = .next (done 4 (put s rd (BitVec.ofNat 32 (a.toNat + b.toNat)))) ∧
    exec (.subu rs rt rd) s = .next (done 4 (put s rd (BitVec.ofInt 32 (a.toInt - b.toInt)))) ∧
    exec (.and rs rt rd) s = .next (done 4 (put s rd (a &&& b))) ∧
    exec (.or rs rt rd) s = .next (done 4 (put s rd (a ||| b))) ∧
    exec (.xor rs rt rd) s = .next (done 4 (put s rd (a ^^^ b))) ∧
    exec (.nor rs rt rd) s = .next (done 4 (put s rd (~~~a &&& ~~~b))) ∧
    exec (.slt rs rt rd) s = .next (done 4 (put s rd (truth (a.toInt < b.toInt)))) ∧
    exec (.sltu rs rt rd) s = .next (done 4 (put s rd (truth (a.toNat < b.toNat))))

/-- ADDIU, SLTI, SLTIU, ANDI, ORI, XORI and LUI write only rt, in every state: the first three sign-extend, the next three
zero-extend the immediate (41_alu32.md R202 to R208). -/
def Obligations.ImmediateArithmetic : Prop :=
  ∀ (rs rt : Reg) (imm : BitVec 16) (s : State), let a := s.reg rs
    exec (.addiu rs rt imm) s = .next (done 4 (put s rt (BitVec.ofInt 32 (a.toInt + imm.toInt)))) ∧
    exec (.slti rs rt imm) s = .next (done 4 (put s rt (truth (a.toInt < imm.toInt)))) ∧
    exec (.sltiu rs rt imm) s = .next (done 4 (put s rt (truth (a.toNat < (BitVec.ofInt 32 imm.toInt).toNat)))) ∧
    exec (.andi rs rt imm) s = .next (done 4 (put s rt (a &&& BitVec.ofNat 32 imm.toNat))) ∧
    exec (.ori rs rt imm) s = .next (done 4 (put s rt (a ||| BitVec.ofNat 32 imm.toNat))) ∧
    exec (.xori rs rt imm) s = .next (done 4 (put s rt (a ^^^ BitVec.ofNat 32 imm.toNat))) ∧
    exec (.lui rt imm) s = .next (done 4 (put s rt (BitVec.ofNat 32 (imm.toNat * 65536))))

/-- The six shifts of the 32-bit ISA as multiplication and division by a power of two; a variable shift takes the amount modulo 32
(42_shift_muldiv32.md R220 to R226). -/
def Obligations.Shifts32 : Prop :=
  ∀ (rs rt rd : Reg) (sa : BitVec 5) (s : State), let v := s.reg rt
    let n := (s.reg rs).toNat % 32
    exec (.sll rt rd sa) s = .next (done 4 (put s rd (BitVec.ofNat 32 (v.toNat * 2 ^ sa.toNat)))) ∧
    exec (.srl rt rd sa) s = .next (done 4 (put s rd (BitVec.ofNat 32 (v.toNat / 2 ^ sa.toNat)))) ∧
    exec (.sra rt rd sa) s = .next (done 4 (put s rd (BitVec.ofInt 32 (v.toInt / 2 ^ sa.toNat)))) ∧
    exec (.sllv rs rt rd) s = .next (done 4 (put s rd (BitVec.ofNat 32 (v.toNat * 2 ^ n)))) ∧
    exec (.srlv rs rt rd) s = .next (done 4 (put s rd (BitVec.ofNat 32 (v.toNat / 2 ^ n)))) ∧
    exec (.srav rs rt rd) s = .next (done 4 (put s rd (BitVec.ofInt 32 (v.toInt / 2 ^ n))))

/-- The multiplies of both ISAs, and the multiply-adds: HI and LO together hold the exact product, or the former double word plus
the product modulo 2^64; the 32-bit forms also write the low word to rd (42_shift_muldiv32.md R227 to R229, R232, R233,
47_shift_muldiv16.md R387 to R389). -/
def Obligations.Multiply : Prop :=
  ∀ (rs rt rd : Reg) (rx ry : Reg3) (s : State), let a := s.reg rs
    let b := s.reg rt
    let acc := s.hi ++ s.lo
    (∃ hi lo, exec (.mult rs rt rd) s = .next (done 4 (put { s with hi := hi, lo := lo } rd lo)) ∧
      (hi ++ lo).toInt = a.toInt * b.toInt) ∧
    (∃ hi lo, exec (.multu rs rt rd) s = .next (done 4 (put { s with hi := hi, lo := lo } rd lo)) ∧
      (hi ++ lo).toNat = a.toNat * b.toNat) ∧
    (∃ hi lo, exec (.madd rs rt rd) s = .next (done 4 (put { s with hi := hi, lo := lo } rd lo)) ∧
      hi ++ lo = BitVec.ofInt 64 (acc.toInt + a.toInt * b.toInt)) ∧
    (∃ hi lo, exec (.maddu rs rt rd) s = .next (done 4 (put { s with hi := hi, lo := lo } rd lo)) ∧
      (hi ++ lo).toNat = (acc.toNat + a.toNat * b.toNat) % 2 ^ 64) ∧
    (∃ hi lo, exec (.mult16 rx ry) s = .next (done 2 { s with hi := hi, lo := lo }) ∧
      (hi ++ lo).toInt = (s.reg (xlat rx)).toInt * (s.reg (xlat ry)).toInt) ∧
    (∃ hi lo, exec (.multu16 rx ry) s = .next (done 2 { s with hi := hi, lo := lo }) ∧
      (hi ++ lo).toNat = (s.reg (xlat rx)).toNat * (s.reg (xlat ry)).toNat)

/-- DIV and DIVU of both ISAs change only HI and LO and raise nothing; where the spec gives a result LO is the quotient (for DIV
truncated toward zero, decision D8) and HI the remainder; for a zero divisor, and for -2^31 by -1, nothing is said of the two
(42_shift_muldiv32.md R230, R231, 47_shift_muldiv16.md R390, R391). -/
def Obligations.Divide : Prop :=
  ∀ (rs rt : Reg) (rx ry : Reg3) (s : State),
    (∃ hi lo, exec (.div rs rt) s = .next (done 4 { s with hi := hi, lo := lo }) ∧
      ((s.reg rt).toNat ≠ 0 → ¬ ((s.reg rs).toInt = -2 ^ 31 ∧ (s.reg rt).toInt = -1) → DividedSigned (s.reg rs) (s.reg rt) lo hi)) ∧
    (∃ hi lo, exec (.divu rs rt) s = .next (done 4 { s with hi := hi, lo := lo }) ∧
      ((s.reg rt).toNat ≠ 0 → DividedUnsigned (s.reg rs) (s.reg rt) lo hi)) ∧
    (∃ hi lo, exec (.div16 rx ry) s = .next (done 2 { s with hi := hi, lo := lo }) ∧
      ((s.reg (xlat ry)).toNat ≠ 0 → ¬ ((s.reg (xlat rx)).toInt = -2 ^ 31 ∧ (s.reg (xlat ry)).toInt = -1) →
        DividedSigned (s.reg (xlat rx)) (s.reg (xlat ry)) lo hi)) ∧
    (∃ hi lo, exec (.divu16 rx ry) s = .next (done 2 { s with hi := hi, lo := lo }) ∧
      ((s.reg (xlat ry)).toNat ≠ 0 → DividedUnsigned (s.reg (xlat rx)) (s.reg (xlat ry)) lo hi))

/-- The moves between general registers and HI or LO, of both ISAs (42_shift_muldiv32.md R234 to R237, 47_shift_muldiv16.md
R392, R393). -/
def Obligations.HiLoMoves : Prop :=
  ∀ (r : Reg) (rx : Reg3) (s : State),
    exec (.mfhi r) s = .next (done 4 (put s r s.hi)) ∧ exec (.mflo r) s = .next (done 4 (put s r s.lo)) ∧
    exec (.mthi r) s = .next (done 4 { s with hi := s.reg r }) ∧ exec (.mtlo r) s = .next (done 4 { s with lo := s.reg r }) ∧
    exec (.mfhi16 rx) s = .next (done 2 (put s (xlat rx) s.hi)) ∧ exec (.mflo16 rx) s = .next (done 2 (put s (xlat rx) s.lo))

/-! ### Jumps and branches -/

/-- J, JAL, JALX, JR and JALR outside a delay slot: the delay slot is next and then the target; JAL and JALX write pc + 8 to r31,
JALR (rd other than rs) to rd; JALX inverts the ISA mode, JR and JALR take it from bit 0 (43_jump_branch32.md R250, R251, R253 to
R257, R259, R260). -/
def Obligations.Jumps32 : Prop :=
  ∀ (target : BitVec 26) (rs rd : Reg) (s : State), s.slot = none →
    exec (.j target) s = .next (jumped 4 (targetRegion s target s.isa16) false s) ∧
    exec (.jal target) s = .next (jumped 4 (targetRegion s target s.isa16) false (put s 31#5 (s.pc + 8))) ∧
    exec (.jalx target) s = .next (jumped 4 (targetRegion s target (!s.isa16)) false (put s 31#5 (s.pc + 8))) ∧
    exec (.jr rs) s = .next (jumped 4 (s.reg rs) false s) ∧
    (rd ≠ rs → exec (.jalr rs rd) s = .next (jumped 4 (s.reg rs) false (put s rd (s.pc + 8))))

/-- BEQ, BNE, BLEZ, BGTZ, BLTZ and BGEZ, and their likely forms, outside a delay slot: conditions are signed, the slot is next and
then the target or pc + 8; a likely one nullifies the slot where it is not taken (43_jump_branch32.md R250, R251, R256(c), R261 to
R267, R271 to R274, R278 to R280). -/
def Obligations.Branches32 : Prop :=
  ∀ (rs rt : Reg) (o : BitVec 16) (s : State),
    Branches (.beq rs rt o) s (s.reg rs = s.reg rt) o ∧ Branches (.bne rs rt o) s (s.reg rs ≠ s.reg rt) o ∧
    Branches (.blez rs o) s ((s.reg rs).toInt ≤ 0) o ∧ Branches (.bgtz rs o) s (0 < (s.reg rs).toInt) o ∧
    Branches (.bltz rs o) s ((s.reg rs).toInt < 0) o ∧ Branches (.bgez rs o) s (0 ≤ (s.reg rs).toInt) o ∧
    BranchesLikely (.beql rs rt o) s (s.reg rs = s.reg rt) o ∧ BranchesLikely (.bnel rs rt o) s (s.reg rs ≠ s.reg rt) o ∧
    BranchesLikely (.blezl rs o) s ((s.reg rs).toInt ≤ 0) o ∧ BranchesLikely (.bgtzl rs o) s (0 < (s.reg rs).toInt) o ∧
    BranchesLikely (.bltzl rs o) s ((s.reg rs).toInt < 0) o ∧ BranchesLikely (.bgezl rs o) s (0 ≤ (s.reg rs).toInt) o

/-- BLTZAL, BGEZAL, BLTZALL and BGEZALL outside a delay slot, rs other than r31: r31 takes pc + 8 whether or not the branch is
taken, and the likely ones nullify the slot of an untaken branch (43_jump_branch32.md R268 to R270, R281, R282). That r31 is written
even where the slot is nullified is a choice of the spec, decision D30 in R268. -/
def Obligations.BranchesAndLink : Prop :=
  ∀ (rs : Reg) (o : BitVec 16) (s : State), s.slot = none → rs ≠ 31#5 → let linked := put s 31#5 (s.pc + 8)
    ((s.reg rs).toInt < 0 →
      exec (.bltzal rs o) s = .next (jumped 4 (target32 s o) false linked) ∧
      exec (.bltzall rs o) s = .next (jumped 4 (target32 s o) false linked) ∧
      exec (.bgezal rs o) s = .next (jumped 4 (s.pc + 8) false linked) ∧
      exec (.bgezall rs o) s = .next (jumped 4 (s.pc + 8) true linked)) ∧
    (0 ≤ (s.reg rs).toInt →
      exec (.bltzal rs o) s = .next (jumped 4 (s.pc + 8) false linked) ∧
      exec (.bltzall rs o) s = .next (jumped 4 (s.pc + 8) true linked) ∧
      exec (.bgezal rs o) s = .next (jumped 4 (target32 s o) false linked) ∧
      exec (.bgezall rs o) s = .next (jumped 4 (target32 s o) false linked))

/-- The jumps of the 16-bit ISA outside a delay slot: JAL, JALX, JR rx, JR ra and JALR (48_jump_branch16.md R401 to R407,
R414). -/
def Obligations.Jumps16 : Prop :=
  ∀ (target : BitVec 26) (rx : Reg3) (s : State), s.slot = none → s.isa16 = true →
    exec (.jal16 target) s = .next (jumped 4 (targetRegion s target true) false (put s 31#5 (s.pc + 6))) ∧
    exec (.jalx16 target) s = .next (jumped 4 (targetRegion s target false) false (put s 31#5 (s.pc + 6))) ∧
    exec (.jr16 rx) s = .next (jumped 2 (s.reg (xlat rx)) false s) ∧
    exec .jrra s = .next (jumped 2 (s.reg 31#5) false s) ∧
    exec (.jalr16 rx) s = .next (jumped 2 (s.reg (xlat rx)) false (put s 31#5 (s.pc + 4)))

/-- The branches of the 16-bit ISA, without a delay slot: BEQZ, BNEZ, BTEQZ, BTNEZ and B, unextended and extended
(48_jump_branch16.md R400(b), R408 to R413). That an extended branch counts from the address behind the pair is the spec's decision
D18 in R408: the source says only that it is computed as in the unextended case. -/
def Obligations.Branches16Bit : Prop :=
  ∀ (rx : Reg3) (o8 : BitVec 8) (o11 : BitVec 11) (o16 : BitVec 16) (s : State), let v := s.reg (xlat rx)
    let t8 := s.reg 24#5
    Branches16 (.beqz rx o8) s 2 (v = 0) o8.toInt ∧ Branches16 (.bnez rx o8) s 2 (v ≠ 0) o8.toInt ∧
    Branches16 (.bteqz o8) s 2 (t8 = 0) o8.toInt ∧ Branches16 (.btnez o8) s 2 (t8 ≠ 0) o8.toInt ∧
    Branches16 (.b o11) s 2 True o11.toInt ∧
    Branches16 (.beqzE rx o16) s 4 (v = 0) o16.toInt ∧ Branches16 (.bnezE rx o16) s 4 (v ≠ 0) o16.toInt ∧
    Branches16 (.bteqzE o16) s 4 (t8 = 0) o16.toInt ∧ Branches16 (.btnezE o16) s 4 (t8 ≠ 0) o16.toInt ∧
    Branches16 (.bE o16) s 4 True o16.toInt

/-- The stops of control transfers (43_jump_branch32.md R252, R255, R268, 44_coproc_special32.md R299, R307, 48_jump_branch16.md R406,
49_special_extend16.md R425(e); U2, U3, U4, U15): every jump and branch of both ISAs, and DERET, in a delay slot, those of a
coprocessor behind the usability check (R290; that the check comes first is read from the spec, log 31); a two-halfword instruction
in a delay slot; JALR with rd = rs; a linking branch on r31. -/
def Obligations.TransferStops : Prop :=
  ∀ (i : Instr) (rs : Reg) (o : BitVec 16) (s : State) (k : Slot),
    (s.slot = some k → (isTransfer i || isLinkTransfer i) = true → exec i s = .fault .transferInDelaySlot) ∧
    (∀ z, s.slot = some k → coprocessorTransfer i = some z → Usable s z → (z = 0#2 ∨ (s.cop z).present = true) →
      exec i s = .fault .transferInDelaySlot) ∧
    (s.slot = some k → twoHalves i = true → exec i s = .fault .extendInDelaySlot) ∧
    exec (.jalr rs rs) s = .fault .linkOverwritesSource ∧
    exec (.bltzal 31#5 o) s = .fault .linkOverwritesSource ∧ exec (.bgezal 31#5 o) s = .fault .linkOverwritesSource ∧
    exec (.bltzall 31#5 o) s = .fault .linkOverwritesSource ∧ exec (.bgezall 31#5 o) s = .fault .linkOverwritesSource

/-! ### Arithmetic of the 16-bit ISA -/

/-- The register forms: ADDU, SUBU, NEG, SLT, SLTU, CMP, AND, OR, XOR, NOT and the two MOVE; SLT, SLTU and CMP write t8
(46_alu16.md R358 to R362, R365 to R367, R369 to R372). -/
def Obligations.RegisterArithmetic16 : Prop :=
  ∀ (rx ry rz : Reg3) (r32 : Reg) (s : State), let a := s.reg (xlat rx)
    let b := s.reg (xlat ry)
    exec (.addu16 rx ry rz) s = .next (done 2 (put s (xlat rz) (BitVec.ofNat 32 (a.toNat + b.toNat)))) ∧
    exec (.subu16 rx ry rz) s = .next (done 2 (put s (xlat rz) (BitVec.ofInt 32 (a.toInt - b.toInt)))) ∧
    exec (.neg16 rx ry) s = .next (done 2 (put s (xlat rx) (BitVec.ofInt 32 (-b.toInt)))) ∧
    exec (.slt16 rx ry) s = .next (done 2 (put s 24#5 (truth (a.toInt < b.toInt)))) ∧
    exec (.sltu16 rx ry) s = .next (done 2 (put s 24#5 (truth (a.toNat < b.toNat)))) ∧
    exec (.cmp16 rx ry) s = .next (done 2 (put s 24#5 (a ^^^ b))) ∧
    exec (.and16 rx ry) s = .next (done 2 (put s (xlat rx) (a &&& b))) ∧
    exec (.or16 rx ry) s = .next (done 2 (put s (xlat rx) (a ||| b))) ∧
    exec (.xor16 rx ry) s = .next (done 2 (put s (xlat rx) (a ^^^ b))) ∧
    exec (.not16 rx ry) s = .next (done 2 (put s (xlat rx) (b ^^^ 0xFFFFFFFF#32))) ∧
    exec (.movr32 ry r32) s = .next (done 2 (put s (xlat ry) (s.reg r32))) ∧
    exec (.mov32r r32 rz) s = .next (done 2 (put s r32 (s.reg (xlat rz))))

/-- The immediate forms of the 16-bit ISA, unextended, and extended outside a delay slot: the five ADDIU, SLTI, SLTIU, CMPI and LI.
Unextended, the forms on pc and sp scale by 4 and ADDIU sp by 8, and SLTI, SLTIU, CMPI and LI zero-extend; extended, nothing is
scaled and only CMPI and LI zero-extend (46_alu16.md R352 to R357, R363, R364, R368, R373). -/
def Obligations.ImmediateArithmetic16 : Prop :=
  ∀ (rx ry : Reg3) (i4 : BitVec 4) (i8 : BitVec 8) (i15 : BitVec 15) (i16 : BitVec 16) (s : State), let a := s.reg (xlat rx)
    let sp := s.reg 29#5
    exec (.addiu3 rx ry i4) s = .next (done 2 (put s (xlat ry) (BitVec.ofInt 32 (a.toInt + i4.toInt)))) ∧
    exec (.addiu8 rx i8) s = .next (done 2 (put s (xlat rx) (BitVec.ofInt 32 (a.toInt + i8.toInt)))) ∧
    exec (.addiupc rx i8) s = .next (done 2 (put s (xlat rx) (basePc s + BitVec.ofNat 32 (4 * i8.toNat)))) ∧
    exec (.addiusp rx i8) s = .next (done 2 (put s (xlat rx) (sp + BitVec.ofNat 32 (4 * i8.toNat)))) ∧
    exec (.adjsp i8) s = .next (done 2 (put s 29#5 (BitVec.ofInt 32 (sp.toInt + 8 * i8.toInt)))) ∧
    exec (.slti16 rx i8) s = .next (done 2 (put s 24#5 (truth (a.toInt < i8.toNat)))) ∧
    exec (.sltiu16 rx i8) s = .next (done 2 (put s 24#5 (truth (a.toNat < i8.toNat)))) ∧
    exec (.cmpi16 rx i8) s = .next (done 2 (put s 24#5 (a ^^^ BitVec.ofNat 32 i8.toNat))) ∧
    exec (.li16 rx i8) s = .next (done 2 (put s (xlat rx) (BitVec.ofNat 32 i8.toNat))) ∧
    (s.slot = none →
      exec (.addiu3E rx ry i15) s = .next (done 4 (put s (xlat ry) (BitVec.ofInt 32 (a.toInt + i15.toInt)))) ∧
      exec (.addiu8E rx i16) s = .next (done 4 (put s (xlat rx) (BitVec.ofInt 32 (a.toInt + i16.toInt)))) ∧
      exec (.addiupcE rx i16) s = .next (done 4 (put s (xlat rx) (basePc s + BitVec.ofInt 32 i16.toInt))) ∧
      exec (.addiuspE rx i16) s = .next (done 4 (put s (xlat rx) (BitVec.ofInt 32 (sp.toInt + i16.toInt)))) ∧
      exec (.adjspE i16) s = .next (done 4 (put s 29#5 (BitVec.ofInt 32 (sp.toInt + i16.toInt)))) ∧
      exec (.sltiE rx i16) s = .next (done 4 (put s 24#5 (truth (a.toInt < i16.toInt)))) ∧
      exec (.sltiuE rx i16) s = .next (done 4 (put s 24#5 (truth (a.toNat < (BitVec.ofInt 32 i16.toInt).toNat)))) ∧
      exec (.cmpiE rx i16) s = .next (done 4 (put s 24#5 (a ^^^ BitVec.ofNat 32 i16.toNat))) ∧
      exec (.liE rx i16) s = .next (done 4 (put s (xlat rx) (BitVec.ofNat 32 i16.toNat))))

/-- The shifts of the 16-bit ISA: an unextended amount of 0 means 8, an extended amount is literal (and needs to stand outside a
delay slot), a variable one is modulo 32 and shifts ry in place (47_shift_muldiv16.md R380 to R386). -/
def Obligations.Shifts16 : Prop :=
  ∀ (rx ry : Reg3) (sa : BitVec 3) (sa5 : BitVec 5) (s : State), let v := s.reg (xlat ry)
    let n := if sa.toNat = 0 then 8 else sa.toNat
    let m := (s.reg (xlat rx)).toNat % 32
    exec (.sll16 rx ry sa) s = .next (done 2 (put s (xlat rx) (BitVec.ofNat 32 (v.toNat * 2 ^ n)))) ∧
    exec (.srl16 rx ry sa) s = .next (done 2 (put s (xlat rx) (BitVec.ofNat 32 (v.toNat / 2 ^ n)))) ∧
    exec (.sra16 rx ry sa) s = .next (done 2 (put s (xlat rx) (BitVec.ofInt 32 (v.toInt / 2 ^ n)))) ∧
    exec (.sllv16 rx ry) s = .next (done 2 (put s (xlat ry) (BitVec.ofNat 32 (v.toNat * 2 ^ m)))) ∧
    exec (.srlv16 rx ry) s = .next (done 2 (put s (xlat ry) (BitVec.ofNat 32 (v.toNat / 2 ^ m)))) ∧
    exec (.srav16 rx ry) s = .next (done 2 (put s (xlat ry) (BitVec.ofInt 32 (v.toInt / 2 ^ m)))) ∧
    (s.slot = none →
      exec (.sllE rx ry sa5) s = .next (done 4 (put s (xlat rx) (BitVec.ofNat 32 (v.toNat * 2 ^ sa5.toNat)))) ∧
      exec (.srlE rx ry sa5) s = .next (done 4 (put s (xlat rx) (BitVec.ofNat 32 (v.toNat / 2 ^ sa5.toNat)))) ∧
      exec (.sraE rx ry sa5) s = .next (done 4 (put s (xlat rx) (BitVec.ofInt 32 (v.toInt / 2 ^ sa5.toNat)))))

/-! ### Coprocessors and system control -/

/-- Every instruction of a coprocessor, and CACHE, takes Coprocessor Unusable with CE its coprocessor where it is not usable:
for z of 1 to 3 with Status.CU[z] = 0 in either mode, for CP0 in user mode with CU[0] = 0; nothing else is read or written; in debug
mode it stops (44_coproc_special32.md R290, 60_exceptions.md R469, R495(f); U14). -/
def Obligations.CoprocessorUnusable : Prop :=
  ∀ (i : Instr) (z : BitVec 2) (s : State), coprocessorOf i = some z → ¬ Usable s z →
    (s.debugMode = false → Traps i s 11#5 (some z) s.badVAddr) ∧ (s.debugMode = true → exec i s = .fault .exceptionInDebugMode)

/-- MFC0 of every listed CP0 register where it is usable: rt takes the register's value, with IL of Cause the request level
presented, and nothing else changes but the model's note of the MFC0 (44_coproc_special32.md R296, 10_state.md R34 to R66). The
value is left open for IE (R58; the spec's decision D24) and in Debug's unspecified bits. A number the spec does not list stops, by
its decision D10 (10_state.md R33, U24). `touched` is what RFE and DERET ask of that note (R536). -/
def Obligations.MoveFromCp0 : Prop :=
  ∀ (rt rd : Reg) (s : State), s.Inv → Usable s 0#2 →
    (rd.toNat ∈ [3, 8, 12, 13, 14, 15, 16, 17, 31] →
      ∃ v, exec (.mfc0 rt rd) s = .next { done 4 (put s rt v) with prev := .mfc0 rt rd } ∧
        (rd = 3#5 → v = s.config) ∧ (rd = 8#5 → v = s.badVAddr) ∧ (rd = 12#5 → v = s.status) ∧
        (rd = 13#5 → v.extractLsb' 13 3 = s.irqLevel ∧ v &&& 0xFFFF1FFF = s.cause) ∧
        (rd = 14#5 → v = s.epc) ∧ (rd = 15#5 → v.toNat = 0x2C00 + s.product.pridRev.toNat) ∧
        (rd = 16#5 → v &&& 0xFFFFD7C3 = s.debug) ∧ (rd = 17#5 → v = s.depc)) ∧
    (rd.toNat ∉ [3, 8, 12, 13, 14, 15, 16, 17, 31] → exec (.mfc0 rt rd) s = .refused .unlistedCp0Register) ∧
    ∀ n, (Prev.mfc0 rt rd).touched n = (rd == n)

/-- MTC0 to Status where it is usable: each writable field takes the bits of the source, a 1 written to NmI clears it, and the
reserved bits stay, at once (D37, log 45) (44_coproc_special32.md R297, 10_state.md R42, R44, R48). It stops where it writes a 1 to RE
(R42, U12), and where it changes KUc directly behind a load or store (20_memory.md R105, U21). It notes for the next instruction
that it wrote Status and whether it changed KUc: `touched` is what RFE and DERET ask of such a note (ReturnFromException, DebugReturn;
R536), `changedMode` what a load or store asks (AddressErrors; R105). -/
def Obligations.MoveToStatus : Prop :=
  ∀ (rt : Reg) (s : State), s.Inv → Usable s 0#2 →
    ((s.reg rt).getLsbD 25 = false → (s.prev = .access → (s.reg rt).getLsbD 1 = s.status.getLsbD 1) →
      ∃ v, exec (.mtc0 rt 12#5) s = .next (doneMtc0 12#5 ((s.reg rt).getLsbD 1 != s.status.getLsbD 1) { s with status := v }) ∧
        ∀ n, n < 32 → v.getLsbD n = (if n = 20 then s.status.getLsbD 20 && !(s.reg rt).getLsbD 20
          else if n ∈ [6, 7, 12, 19, 21, 23, 24, 25, 26, 27] then false else (s.reg rt).getLsbD n)) ∧
    ((s.reg rt).getLsbD 25 = true → exec (.mtc0 rt 12#5) s = .fault .reverseEndianWritten) ∧
    ((s.reg rt).getLsbD 25 = false → s.prev = .access → (s.reg rt).getLsbD 1 ≠ s.status.getLsbD 1 →
      exec (.mtc0 rt 12#5) s = .fault .modeChangeBesideAccess) ∧
    ∀ (rd n : Reg) (k : Bool), (Prev.mtc0 rd k).touched n = (rd == n) ∧ (Prev.mtc0 rd k).changedMode = k

/-- MTC0 to IE where it is usable clears Status.IEc for a zero source and sets it for any other, at once (D37, log 45); nothing
else changes, and it notes no change of KUc (10_state.md R58). -/
def Obligations.MoveToIe : Prop :=
  ∀ (rt : Reg) (s : State), Usable s 0#2 →
    ∃ v, exec (.mtc0 rt 31#5) s = .next (doneMtc0 31#5 false { s with status := v }) ∧
      v.getLsbD 0 = (s.reg rt != 0) ∧ ∀ n, 0 < n → n < 32 → v.getLsbD n = s.status.getLsbD n

/-- MTC0 to the other registers where it is usable: Config unless it is locked outside debug mode, Cause.Sw, EPC, Debug's SSt and BsF
(cleared by a 1), DEPC; BadVAddr and PRId ignore it (44_coproc_special32.md R297, 10_state.md R34, R37, R39, R53, R56, R57, R62, R65,
R66). Each notes its register and no change of KUc. `depcWait` is the model's count for R536(d): it goes down by one as an
instruction executes (StepRunsDecodedInstruction), and DERET's target is exact at 0 (DebugReturn), so from 3 the third instruction may
be DERET. It stops where it writes Halt and Doze both 1 (R36, U11) and for a number the spec does
not list (R33, U24). Choices: the effect is at once (D37, log 45), BadVAddr and the whole of PRId ignore the write (the spec's
decision D22), EPC takes all 32 bits (D23), an unlisted number stops (D10). -/
def Obligations.MoveToOtherCp0 : Prop :=
  ∀ (rt : Reg) (s : State), Usable s 0#2 → let v := s.reg rt
    (s.config.getLsbD 7 = true → s.debugMode = false → (s.config.getLsbD 8 && s.config.getLsbD 9) = false →
      exec (.mtc0 rt 3#5) s = .next (doneMtc0 3#5 false s)) ∧
    (s.config.getLsbD 7 = false ∨ s.debugMode = true → (v.getLsbD 8 && v.getLsbD 9) = false →
      exec (.mtc0 rt 3#5) s = .next (doneMtc0 3#5 false { s with config := v &&& 0xFB0 })) ∧
    (s.config.getLsbD 7 = false ∨ s.debugMode = true → (v.getLsbD 8 && v.getLsbD 9) = true →
      exec (.mtc0 rt 3#5) s = .fault .haltAndDoze) ∧
    (∀ rd : Reg, rd.toNat ∉ [3, 8, 12, 13, 14, 15, 16, 17, 31] → exec (.mtc0 rt rd) s = .refused .unlistedCp0Register) ∧
    (∃ c, exec (.mtc0 rt 13#5) s = .next (doneMtc0 13#5 false { s with cause := c }) ∧
      ∀ n, n < 32 → c.getLsbD n = if 8 ≤ n ∧ n < 12 then v.getLsbD n else s.cause.getLsbD n) ∧
    exec (.mtc0 rt 14#5) s = .next (doneMtc0 14#5 false { s with epc := v }) ∧
    (∃ d, exec (.mtc0 rt 16#5) s = .next (doneMtc0 16#5 false { s with debug := d }) ∧
      ∀ n, n < 32 → d.getLsbD n = if n = 8 then v.getLsbD 8 else if n = 10 then BitVec.getLsbD s.debug 10 && !v.getLsbD 10 else BitVec.getLsbD s.debug n) ∧
    exec (.mtc0 rt 17#5) s = .next (doneMtc0 17#5 false { s with depc := v, depcWait := 3 }) ∧
    exec (.mtc0 rt 8#5) s = .next (doneMtc0 8#5 false s) ∧
    exec (.mtc0 rt 15#5) s = .next (doneMtc0 15#5 false s)

/-- RFE where it is usable and the instruction directly before was no MTC0 to Status and no MFC0 from it: the pop of Status and
nothing else (44_coproc_special32.md R290, R306, 60_exceptions.md R455). Choices: with interrupts enabled, where the source guarantees
nothing of Status, it pops as always (U16, 70_reset_and_hazards.md R536(c), log 46), and directly behind an MTC0 to IE too (log 20). -/
def Obligations.ReturnFromException : Prop :=
  ∀ s : State, Usable s 0#2 → s.prev.touched 12#5 = false →
    ∃ v, exec .rfe s = .next (done 4 { s with status := v }) ∧ StatusPopped s.status v

/-- DERET in debug mode, outside a delay slot, far enough behind an MTC0 to DEPC and not directly behind an MTC0 or MFC0 of
Debug: one delay slot, then DEPC; debug mode ends as the slot completes, which is what `leavesDebug` and `done` say
(44_coproc_special32.md R307, 60_exceptions.md R494). Outside debug mode it stops (U10). In its hazards it completes all the same:
directly behind an MTC0 or MFC0 of Debug with any value in Debug's existing bits (U18), too soon behind an MTC0 to DEPC to any
target. RFE directly behind an MTC0 or MFC0 of Status completes with any value in Status's existing bits (U16). Choices: that such a
DERET goes to any target (log 17), and that the reserved bits of Debug and Status stay 0 (logs 21, 20). Nothing else changes. -/
def Obligations.DebugReturn : Prop :=
  ∀ s : State, (s.debugMode = true → s.slot = none →
      ∃ d target, exec .deret s =
          .next { s with debug := d, pc := s.pc + 4, slot := some ⟨s.pc, target, false, true⟩, prev := .other, ssSkip := false } ∧
        (s.prev.touched 16#5 = false → d = s.debug) ∧ (s.prev.touched 16#5 = true → d &&& 0x3FFFAAFC = 0) ∧
        (s.depcWait = 0 → target = s.depc)) ∧
    (s.debugMode = false → s.slot = none → Usable s 0#2 → exec .deret s = .fault .deretOutsideDebugMode) ∧
    (Usable s 0#2 → s.prev.touched 12#5 = true →
      ∃ v, exec .rfe s = .next (done 4 { s with status := v }) ∧ v &&& 0x0FA810C0 = 0)

/-- SYNC changes nothing; TLBR, TLBWI, TLBWR and TLBP, where usable, change nothing (40_loadstore32.md R184, 44_coproc_special32.md
R312). -/
def Obligations.NoOperations : Prop :=
  ∀ s : State, exec .sync s = .next (done 4 s) ∧
    (Usable s 0#2 → exec .tlbr s = .next (done 4 s) ∧ exec .tlbwi s = .next (done 4 s) ∧ exec .tlbwr s = .next (done 4 s) ∧
      exec .tlbp s = .next (done 4 s))

/-- SYSCALL, BREAK of both ISAs, LWCz, SWCz and a misused EXTEND outside a delay slot take their exceptions, and in debug mode stop
(44_coproc_special32.md R309, R310, R313, 49_special_extend16.md R421, R425(c), 60_exceptions.md R467, R468, R471, R495(f); U14). -/
def Obligations.SystemTraps : Prop :=
  ∀ (code : BitVec 20) (code6 : BitVec 6) (z : BitVec 2) (base rt : Reg) (o : BitVec 16) (imm : BitVec 11) (low : Half) (s : State),
    (s.debugMode = false →
      Traps (.syscall code) s 8#5 none s.badVAddr ∧ Traps (.brk code) s 9#5 none s.badVAddr ∧
      Traps (.brk16 code6) s 9#5 none s.badVAddr ∧ Traps (.lwcz z base rt o) s 10#5 none s.badVAddr ∧
      Traps (.swcz z base rt o) s 10#5 none s.badVAddr ∧ (s.slot = none → Traps (.extend imm low) s 10#5 none s.badVAddr)) ∧
    (s.debugMode = true → ∀ i ∈ [Instr.syscall code, .brk code, .brk16 code6, .lwcz z base rt o, .swcz z base rt o],
      exec i s = .fault .exceptionInDebugMode) ∧
    (s.debugMode = true → s.slot = none → exec (.extend imm low) s = .fault .exceptionInDebugMode)

/-- SDBBP of both ISAs enters debug mode: Debug and DEPC are written, every other register stays, and control goes to 0xBFC00200
in 32-bit mode; in debug mode it stops (44_coproc_special32.md R311, 49_special_extend16.md R422, 60_exceptions.md R489, R490;
U9). -/
def Obligations.DebugBreakpoint : Prop :=
  ∀ (code : BitVec 20) (code6 : BitVec 6) (s : State),
    (s.debugMode = false → ∃ t, exec (.sdbbp code) s = .next t ∧ exec (.sdbbp16 code6) s = .next t ∧
      t = { s with pc := 0xBFC00200, depc := savedPc s, debug := t.debug, slot := none, ssSkip := false, prev := .entry, storeWindow := [] } ∧
      ∀ n, n < 32 → BitVec.getLsbD t.debug n = (if n = 31 then s.slot.isSome else if n = 30 ∨ n = 1 then true
        else if n = 10 ∨ n = 8 then BitVec.getLsbD s.debug n else false)) ∧
    (s.debugMode = true → exec (.sdbbp code) s = .fault .sdbbpInDebugMode ∧ exec (.sdbbp16 code6) s = .fault .sdbbpInDebugMode)

/-- The moves and the operations of a coprocessor of 1 to 3 that is usable and present: MFCz and CFCz read a data or control
register, MTCz and CTCz write one, and nothing else changes; COPz may change that unit's registers and its own condition line and
nothing else, which is the model's reading of what COPz leaves open (log 30) (44_coproc_special32.md R292 to R295, R298). -/
def Obligations.CoprocessorMoves : Prop :=
  ∀ (rt rd : Reg) (f : BitVec 25) (s : State),
    (Present s 1#2 → exec (.mfc1 rt rd) s = .next (done 4 (put s rt (s.cop1.data[rd.toNat]'rd.isLt))) ∧
      exec (.cfc1 rt rd) s = .next (done 4 (put s rt (s.cop1.ctrl[rd.toNat]'rd.isLt))) ∧
      exec (.mtc1 rt rd) s = .next (done 4 { s with cop1 := { s.cop1 with data := s.cop1.data.set rd.toNat (s.reg rt) rd.isLt } }) ∧
      exec (.ctc1 rt rd) s = .next (done 4 { s with cop1 := { s.cop1 with ctrl := s.cop1.ctrl.set rd.toNat (s.reg rt) rd.isLt } }) ∧
      ∃ c l, exec (.cop1 f) s = .next (done 4 { s with cop1 := c, cpcond := l }) ∧ c.present = true ∧
        ∀ n, n ≠ 1 → l.getLsbD n = s.cpcond.getLsbD n) ∧
    (Present s 2#2 → exec (.mfc2 rt rd) s = .next (done 4 (put s rt (s.cop2.data[rd.toNat]'rd.isLt))) ∧
      exec (.cfc2 rt rd) s = .next (done 4 (put s rt (s.cop2.ctrl[rd.toNat]'rd.isLt))) ∧
      exec (.mtc2 rt rd) s = .next (done 4 { s with cop2 := { s.cop2 with data := s.cop2.data.set rd.toNat (s.reg rt) rd.isLt } }) ∧
      exec (.ctc2 rt rd) s = .next (done 4 { s with cop2 := { s.cop2 with ctrl := s.cop2.ctrl.set rd.toNat (s.reg rt) rd.isLt } }) ∧
      ∃ c l, exec (.cop2 f) s = .next (done 4 { s with cop2 := c, cpcond := l }) ∧ c.present = true ∧
        ∀ n, n ≠ 2 → l.getLsbD n = s.cpcond.getLsbD n) ∧
    (Present s 3#2 → exec (.mfc3 rt rd) s = .next (done 4 (put s rt (s.cop3.data[rd.toNat]'rd.isLt))) ∧
      exec (.cfc3 rt rd) s = .next (done 4 (put s rt (s.cop3.ctrl[rd.toNat]'rd.isLt))) ∧
      exec (.mtc3 rt rd) s = .next (done 4 { s with cop3 := { s.cop3 with data := s.cop3.data.set rd.toNat (s.reg rt) rd.isLt } }) ∧
      exec (.ctc3 rt rd) s = .next (done 4 { s with cop3 := { s.cop3 with ctrl := s.cop3.ctrl.set rd.toNat (s.reg rt) rd.isLt } }) ∧
      ∃ c l, exec (.cop3 f) s = .next (done 4 { s with cop3 := c, cpcond := l }) ∧ c.present = true ∧
        ∀ n, n ≠ 3 → l.getLsbD n = s.cpcond.getLsbD n)

/-- The coprocessor branches, for CP0 where it is usable and for 1 to 3 where also present: the condition is `cpcondPrev`, the line as
presented in the step directly before (Inputs says so), which is the line while the instruction before executed; the likely ones
nullify the slot of an untaken branch (44_coproc_special32.md R299 to R303). Choice: where that step executed no instruction (a
skipped slot, a wait in Halt or Doze, an exception entry) it is still the line of that step, which R299 leaves open (log 53). -/
def Obligations.CoprocessorBranches : Prop :=
  ∀ (o : BitVec 16) (s : State), let on := fun n => s.cpcondPrev.getLsbD n = true
    (Usable s 0#2 → Branches (.bc0f o) s (¬ on 0) o ∧ Branches (.bc0t o) s (on 0) o ∧
      BranchesLikely (.bc0fl o) s (¬ on 0) o ∧ BranchesLikely (.bc0tl o) s (on 0) o) ∧
    (Present s 1#2 → Branches (.bc1f o) s (¬ on 1) o ∧ Branches (.bc1t o) s (on 1) o ∧
      BranchesLikely (.bc1fl o) s (¬ on 1) o ∧ BranchesLikely (.bc1tl o) s (on 1) o) ∧
    (Present s 2#2 → Branches (.bc2f o) s (¬ on 2) o ∧ Branches (.bc2t o) s (on 2) o ∧
      BranchesLikely (.bc2fl o) s (¬ on 2) o ∧ BranchesLikely (.bc2tl o) s (on 2) o) ∧
    (Present s 3#2 → Branches (.bc3f o) s (¬ on 3) o ∧ Branches (.bc3t o) s (on 3) o ∧
      BranchesLikely (.bc3fl o) s (¬ on 3) o ∧ BranchesLikely (.bc3tl o) s (on 3) o)

/-- The stops behind the usability check: CFC0 and CTC0 always (44_coproc_special32.md R305, U29), CACHE always, as the core has no
cache (R308, U19), and every instruction of a coprocessor of 1 to 3 that the product has not (R291, U28). That they stop is the
spec's choice where the source leaves the behaviour undefined or unsaid (D13, D15, D11; log 14). -/
def Obligations.CoprocessorStops : Prop :=
  ∀ (i : Instr) (z : BitVec 2) (base rt rd : Reg) (op : BitVec 5) (o : BitVec 16) (s : State),
    (Usable s 0#2 → exec (.cfc0 rt rd) s = .refused .controlRegisterOfCp0 ∧ exec (.ctc0 rt rd) s = .refused .controlRegisterOfCp0 ∧
      exec (.cache base op o) s = .refused .cacheAbsent) ∧
    (coprocessorOf i = some z → z ≠ 0#2 → Usable s z → (s.cop z).present = false → exec i s = .refused .coprocessorAbsent)

/-! ### Exceptions and interrupts -/

/-- The whole entry of a general exception other than Reset, as one function: every register the entry names, and every other one
unchanged (60_exceptions.md R442 to R448, R463). CE is any value but for CpU, and ExcCode for NMI (U13). Choice: that a software
interrupt raises CMask to its own level is the spec's decision D21 (R479); that the entry of an NMI or an interrupt, which no
instruction raised, ends the exemption from single step like any other is the model's, as R487 leaves it open (log 54). `prev` and `storeWindow` are the model's own fields
(logs 12, 25). -/
def Obligations.GeneralExceptionEntry : Prop :=
  ∀ (e : Exn) (s : State), let t := s.take e
    t = { s with pc := e.vector (s.status.getLsbD 22), badVAddr := t.badVAddr, epc := savedPc s, status := t.status, cause := t.cause, config := t.config, nmiPending := s.nmiPending && e != .nmi, slot := none, ssSkip := false, prev := .entry, storeWindow := [] } ∧
    t.badVAddr = (match e with | .adel va => va | .ades va => va | _ => s.badVAddr) ∧
    (∀ c, e.code = some c → t.cause.extractLsb' 2 5 = c) ∧ (∀ z, e = .cpu z → t.cause.extractLsb' 28 2 = z) ∧
    t.cause.extractLsb' 8 4 = s.cause.extractLsb' 8 4 ∧ t.cause &&& 0x4FFFF083 = 0 ∧ t.cause.getLsbD 31 = s.slot.isSome ∧
    (∀ n, n < 32 → n ≠ 20 → ¬ (13 ≤ n ∧ n < 16) → t.status.getLsbD n = (if n < 2 then false
      else if n < 6 then s.status.getLsbD (n - 2) else if 16 ≤ n ∧ n < 19 then s.status.getLsbD (n - 3) else s.status.getLsbD n)) ∧
    t.status.getLsbD 20 = (s.status.getLsbD 20 || e == .nmi) ∧
    (t.status.extractLsb' 13 3).toNat = (match e with | .intSw i => levelOf i | _ => maskLevel s) ∧
    (∀ n, n < 32 → t.config.getLsbD n = (s.config.getLsbD n && !((n = 8 || n = 9) && (e == .nmi || e == .intHw))))

/-- The exception codes and the vectors (60_exceptions.md R445, R453). -/
def Obligations.CodesAndVectors : Prop :=
  ∀ bev : Bool,
    (Exn.intHw.code = some 0 ∧ Exn.ibe.code = some 6 ∧ Exn.dbe.code = some 7 ∧ Exn.sys.code = some 8 ∧ Exn.bp.code = some 9 ∧
      Exn.ri.code = some 10 ∧ Exn.ov.code = some 12 ∧ Exn.nmi.code = none) ∧
    (∀ i va z, (Exn.intSw i).code = some 0 ∧ (Exn.adel va).code = some 4 ∧ (Exn.ades va).code = some 5 ∧ (Exn.cpu z).code = some 11) ∧
    Exn.nmi.vector bev = 0xBFC00000 ∧ Exn.intHw.vector bev = (if bev then 0xBFC00260 else 0x80000160) ∧
    (∀ i : BitVec 2, ((Exn.intSw i).vector bev).toNat = (if bev then 0xBFC00210 else 0x80000110) + 16 * i.toNat) ∧
    (∀ e ∈ [Exn.ibe, .dbe, .sys, .bp, .ri, .ov], e.vector bev = if bev then 0xBFC00180 else 0x80000080) ∧
    (∀ va z, ∀ e ∈ [Exn.adel va, .ades va, .cpu z], e.vector bev = if bev then 0xBFC00180 else 0x80000080)

/-- The interrupt accepted at a boundary: none where no request is acceptable, else the acceptable one of the greatest level, at
equal level the hardware one before software, and of the software ones the highest index (60_exceptions.md R475, R477). -/
def Obligations.InterruptAcceptance : Prop :=
  ∀ s : State,
    (s.acceptedInterrupt = none ↔ ¬ HwAcceptable s ∧ ∀ i, ¬ SwAcceptable s i) ∧
    (s.acceptedInterrupt = some .intHw ↔ HwAcceptable s ∧ ∀ i, SwAcceptable s i → levelOf i ≤ s.irqLevel.toNat) ∧
    (∀ i, s.acceptedInterrupt = some (.intSw i) ↔ SwAcceptable s i ∧ (HwAcceptable s → s.irqLevel.toNat < levelOf i) ∧
      ∀ j, SwAcceptable s j → levelOf j < levelOf i ∨ (levelOf j = levelOf i ∧ j.toNat ≤ i.toNat))

/-- An accepted interrupt is taken at its boundary where nothing comes before it: no NMI, and no exception or data bus error of the
next instruction; those outrank it, and the instruction then runs instead (60_exceptions.md R450, R464, R481). With SDBBP next the
two are taken together (R492(b), by the spec's decision D33; CoincidentEntry says how). Choices: that interrupts are sampled at every
instruction boundary, between a jump and its delay slot too, is the spec's decision D32 in R481 (log 13); that one is also taken in
place of an instruction on which the model would stop is the model's (log 37). -/
def Obligations.InterruptIsTaken : Prop :=
  ∀ (s : State) (e : Exn), let u := s.sample
    s.resetDue = false → Running u → u.nmiDue = false → u.acceptedInterrupt = some e → u.fetch ≠ .busError →
    (u.fetch.isSdbbp = true → step s = .next (u.takeCoincident .breakpoint e)) ∧
    (u.fetch.isSdbbp = false →
      ((∀ t, runFetched u.fetch u = .next t → t.prev ≠ .entry ∧ t.dbe = none) → step s = .next (u.take e)) ∧
      (∀ t, runFetched u.fetch u = .next t → t.prev = .entry ∨ t.dbe ≠ none → step s = .next t))

/-- A pending NMI is taken at the next boundary outside debug mode, before every interrupt and every exception but the bus errors,
and it is then no longer pending; where the next instruction is a load or store that meets a bus error, that runs first
(60_exceptions.md R450, R463, R495(c)). Choice: with SDBBP next the two are taken together, by the spec's decision D33(b) in R492. -/
def Obligations.NmiIsTaken : Prop :=
  ∀ s : State, let u := s.sample
    s.resetDue = false → Running u → u.nmiPending = true → u.debugMode = false → u.fetch ≠ .busError →
    ((∀ t, runFetched u.fetch u = .next t → t.dbe = none) →
      (u.fetch.isSdbbp = false → step s = .next (u.take .nmi)) ∧
      (u.fetch.isSdbbp = true → step s = .next (u.takeCoincident .breakpoint .nmi))) ∧
    (∀ t, runFetched u.fetch u = .next t → t.dbe ≠ none → step s = .next t) ∧
    (u.take .nmi).nmiPending = false ∧ (u.takeCoincident .breakpoint .nmi).nmiPending = false

/-- The debug entry of a coincident pair: the whole entry of the general exception (GeneralExceptionEntry) but for its jump, then DM,
the kind, NIS and OES, DEPC as EPC, and the jump to 0xBFC00200 (60_exceptions.md R492). -/
def Obligations.CoincidentEntry : Prop :=
  ∀ (k : DebugKind) (e : Exn) (s : State), let t := s.takeCoincident k e
    t = { s.take e with pc := 0xBFC00200, depc := savedPc s, debug := t.debug } ∧ (s.take e).epc = savedPc s ∧
    (∀ n, n < 32 → BitVec.getLsbD t.debug n = (if n = 31 then s.slot.isSome else if n = 30 then true else if n = 14 then e == .nmi
      else if n = 12 then e != .nmi else if n = 1 then k == .breakpoint else if n = 0 then k == .singleStep
      else if n = 10 ∨ n = 8 then BitVec.getLsbD s.debug n else false))

/-- Single step: with Debug.SSt set outside debug mode, not before a delay slot and not before the first instruction behind a
DERET, the debug exception is taken before the next instruction, whose address DEPC takes, and before any NMI, interrupt or bus error
due at that boundary (60_exceptions.md R487, R490, R491, R492(c)). Where the fetch of that instruction meets an address error the two
are taken together (R492(a); CoincidentEntry says how). Choices: a pending data bus error stays pending (log 52), an exception entry
ends the exemption behind a DERET (log 54), and with an address error an NMI or interrupt too stays pending (log 56). -/
def Obligations.SingleStep : Prop :=
  ∀ s : State, let u := s.sample
    s.resetDue = false → u.slot = none → u.stopped = false → BitVec.getLsbD u.debug 8 = true →
    BitVec.getLsbD u.debug 30 = false → u.ssSkip = false →
    ((∀ va, u.fetch ≠ .addressError va) → ∃ d, step s =
        .next { u with pc := 0xBFC00200, depc := u.pc, debug := d, prev := .entry, storeWindow := [] } ∧
      ∀ n, n < 32 → BitVec.getLsbD d n = (n = 30 || n = 0 || ((n = 8 || n = 10) && BitVec.getLsbD u.debug n))) ∧
    (∀ va, u.fetch = .addressError va → step s = .next (u.takeCoincident .singleStep (.adel va)))

/-- A pending data bus error is taken at the boundary behind its load or store, outside debug mode and where no single step is due:
the entry of DBE but for EPC and BD; those are the next instruction's where it waits for the load (it is SYNC or reads the load's
register), else any value (60_exceptions.md R450, R466). Choices: that it is taken at this boundary, and EPC exact in those two
cases only, is the spec's decision D28 (log 29); where the fetch of the next instruction meets a bus error, IBE comes first, as R450
says, and the data bus error stays pending (log 52). -/
def Obligations.DataBusErrorIsTaken : Prop :=
  ∀ (s : State) (d : DataBusError), let u := s.sample
    s.resetDue = false → (∀ k, u.slot = some k → k.nullify = false) →
    u.stopped = false → u.dbe = some d → u.debugMode = false → u.singleStepDue = false →
    (u.fetch = .busError → step s = .next (u.take .ibe) ∧ (u.take .ibe).dbe = some d) ∧
    (waitsForLoad d u.fetch = true ↔
      ∃ dest c failed i, d = .load dest ∧ u.fetch = .code c failed ∧ decodeCode c = .instr i ∧ WaitsFor dest i) ∧
    (u.fetch ≠ .busError → waitsForLoad d u.fetch = true → step s = .next ({ u with dbe := none }.take .dbe)) ∧
    (u.fetch ≠ .busError → waitsForLoad d u.fetch = false → ∃ epc bd, step s = .next ({ u with dbe := none }.takeWith .dbe epc bd))

/-- A fetch that meets a bus error, or whose address is misaligned in 32-bit mode or in kernel space in user mode, takes IBE or AdEL
instead of executing (20_memory.md R86, R92, 60_exceptions.md R450, R465, R466), AdEL with the address of that fetch, which for the second
halfword of a pair is that halfword's (49_special_extend16.md R425(f); FetchReadsStoredInstruction says when); in debug mode AdEL stops (R495(f), U14). The last
three parts say which fetches meet a bus error: of a word, of a first or only halfword, of the second halfword of a pair; in debug mode
such a fetch raises nothing and delivers any value there (R495(a); that it does so for a fetch too is read from it, log 16), with which
StepRunsDecodedInstruction goes on. Choice: that IBE is precise, with EPC and BD of the instruction not fetched, is the spec's decision
D28 in R466(b). -/
def Obligations.FetchExceptions : Prop :=
  ∀ s : State, let u := s.sample
    let a := u.instrAddr
    (s.resetDue = false → Running u →
      (u.debugMode = false → u.fetch = .busError → step s = .next (u.take .ibe)) ∧
      (∀ va, u.fetch = .addressError va →
        (u.debugMode = false → u.nmiPending = false → step s = .next (u.take (.adel va))) ∧
        (u.debugMode = true → step s = .fault .exceptionInDebugMode))) ∧
    ((u.isa16 = false ∧ a.toNat % 4 ≠ 0) ∨ (u.userMode = true ∧ 2 ^ 31 ≤ a.toNat) → u.fetch = .addressError a) ∧
    (u.isa16 = false → Fetchable u a 4 → u.busFails .fetch (bytesFrom a 4) = true →
      ∃ w, u.fetch = if u.debugMode then .code (.word w) true else .busError) ∧
    (u.isa16 = true → Fetchable u a 2 → u.busFails .fetch (bytesFrom a 2) = true →
      (u.debugMode = false → u.fetch = .busError) ∧
      (u.debugMode = true → Fetchable u (a + 2) 2 → (∀ va ∈ bytesFrom (a + 2) 2, ¬ Recent u va) →
        ∃ h k, u.fetch = .code (if isFirstOfTwo h then .pair h k else .half h) true)) ∧
    (u.isa16 = true → Fetchable u a 2 → u.busFails .fetch (bytesFrom a 2) = false → (∀ va ∈ bytesFrom a 2, ¬ Recent u va) →
      isFirstOfTwo (u.halfAt a) = true → Fetchable u (a + 2) 2 → u.busFails .fetch (bytesFrom (a + 2) 2) = true →
      ∃ k, u.fetch = if u.debugMode then .code (.pair (u.halfAt a) k) true else .busError)

/-- A stopped core (Halt or Doze) with no hardware request, and with no NMI or in debug mode, executes nothing: only the inputs of the
boundary are taken in. A hardware request, masked or not, or an NMI outside debug mode clears the two bits, and the boundary goes on as
that of a running core (60_exceptions.md R503, R504, R506; D19, log 38). Choices of the model: an NMI in debug mode is held and does not
end the mode, as R495(c) and R506(b) do not name the pair (log 57), and a single step or data bus error that is due waits for the
release (logs 58, 38). -/
def Obligations.HaltAndDoze : Prop :=
  ∀ s : State, s.resetDue = false → (∀ k, s.sample.slot = some k → k.nullify = false) → s.sample.stopped = true →
    (s.sample.irqLevel.toNat = 0 → (s.sample.nmiPending = false ∨ s.sample.debugMode = true) → step s = .next s.sample) ∧
    (s.sample.irqLevel.toNat ≠ 0 ∨ (s.sample.nmiPending = true ∧ s.sample.debugMode = false) →
      step s = runBoundary { s.sample with config := s.sample.config &&& ~~~0x300#32 })

/-- The Reset exception at a boundary at which RESET arrives: the values the spec states, no pending jump, NMI, data bus error, single
step exemption or hazard (10_state.md R76, 60_exceptions.md R462, 70_reset_and_hazards.md R520, R521). Memory is left at any contents in
canonical form, and nothing is said of what else the spec leaves unspecified. Choice: the product and the signals presented stay, as do
the inputs still to arrive (log 10). -/
def Obligations.ResetException : Prop :=
  ∀ s : State, s.resetDue = true → ∃ t, step s = .next t ∧
    t = { s.sample with gpr := t.gpr, hi := t.hi, lo := t.lo, pc := 0xBFC00000, config := 0, badVAddr := t.badVAddr, status := t.status, cause := t.cause, epc := t.epc, debug := t.debug, depc := t.depc, mem := t.mem, slot := none, prev := .other, ssSkip := false, nmiPending := false, dbe := none, depcWait := 0, storeWindow := [], cop1 := t.cop1, cop2 := t.cop2, cop3 := t.cop3 } ∧
    t.gpr[0] = 0 ∧ t.status.extractLsb' 13 3 = 7#3 ∧ t.status.extractLsb' 0 2 = 0#2 ∧ t.status.getLsbD 22 = true ∧
    t.status.getLsbD 20 = false ∧ t.status &&& 0x0FA810C0 = 0 ∧ t.cause &&& 0x4FFFF083 = 0 ∧ BitVec.getLsbD t.debug 30 = false ∧
    BitVec.getLsbD t.debug 8 = false ∧ t.debug &&& 0x3FFF82C0 = 0 ∧ Memory.wf t.mem = true ∧ t.product = s.product ∧
    t.cop1.present = s.sample.cop1.present ∧ t.cop2.present = s.sample.cop2.present ∧ t.cop3.present = s.sample.cop3.present

/-- The inputs between two instructions: the next list of them is taken in, in order, the condition lines so far becoming those of the
step before, which CoprocessorBranches tests (44_coproc_special32.md R299; log 53). The request level and the condition lines are taken over, an NMI edge is latched, a read of
the interrupt vector register puts the request level into CMask, the bus errors to come are taken over, and another bus master writes a byte unless the core is halted
(00_scope.md R7, 60_exceptions.md R463, R480, R503). Choices: that CMask is set at the read, to the level presented then, is the
spec's decision D20 (R480); that other masters write byte by byte between instructions, and none in Halt, is the model's (log 49). -/
def Obligations.Inputs : Prop :=
  ∀ (s : State) (l : BitVec 3) (c : BitVec 4) (pa : Word) (b : Byte) (ranges : List BusErrorRange),
    (∃ n, s.sample = (s.inputs.headD []).foldl applyEvent { s with tick := n, cpcondPrev := s.cpcond, inputs := s.inputs.tail }) ∧
    s.sample.cpcondPrev = s.cpcond ∧ applyEvent s (.busErrors ranges) = { s with busErrors := ranges } ∧
    applyEvent s (.irqLevel l) = { s with irqLevel := l } ∧ applyEvent s (.cpcond c) = { s with cpcond := c } ∧
    applyEvent s .nmiEdge = { s with nmiPending := true } ∧
    (∃ v, applyEvent s .ivrRead = { s with status := v } ∧ v.extractLsb' 13 3 = s.irqLevel ∧
      ∀ n, n < 32 → ¬ (13 ≤ n ∧ n < 16) → v.getLsbD n = s.status.getLsbD n) ∧
    (s.config.getLsbD 8 = true → applyEvent s (.busWrite pa b) = s) ∧
    (s.config.getLsbD 8 = false → Memory.wf s.mem = true → ∃ m, applyEvent s (.busWrite pa b) = { s with mem := m } ∧
      ∀ a, memRead m a = if a = pa.toNat then b else memRead s.mem a)

end Slice0
end

