-- ==== Sys2Proof/Laws/Memory.lean ====
section
/-! SUPPORT. Memory: read after write, and the canonical form kept by every memory operation. -/

namespace Sys2Proof.Machine

/-- The canonical form from a higher address is the canonical form from a lower one. -/
theorem memWfFrom_mono {lo lo' : Nat} {m : List Host.Cell} (h : memWfFrom lo m = true) (hl : lo' ≤ lo) :
    memWfFrom lo' m = true := by
  cases m with
  | nil => rfl
  | cons c m =>
    simp only [memWfFrom, Bool.and_eq_true, decide_eq_true_eq] at h ⊢
    exact ⟨⟨⟨by omega, h.1.1.2⟩, h.1.2⟩, h.2⟩

/-- Below every listed address, memory reads as unlisted. -/
theorem memRead_below {lo a : Nat} {m : List Host.Cell} (h : memWfFrom lo m = true) (ha : a < lo) :
    memRead m a = unlistedByte := by
  induction m generalizing lo with
  | nil => rfl
  | cons c m ih =>
    simp only [memWfFrom, Bool.and_eq_true, decide_eq_true_eq] at h
    have hne : a ≠ c.1 := by omega
    simp only [memRead, if_neg hne]
    exact ih h.2 (by omega)

/-- Reading the byte just written gives it. -/
theorem memRead_memWrite_self {lo a : Nat} {b : Byte} {m : List Host.Cell} (h : memWfFrom lo m = true) :
    memRead (memWrite m a b) a = b := by
  induction m generalizing lo with
  | nil =>
    unfold memWrite
    split
    · next hb => simp [memRead, hb]
    · simp [memRead]
  | cons c m ih =>
    simp only [memWfFrom, Bool.and_eq_true, decide_eq_true_eq] at h
    unfold memWrite
    split
    · next hlt =>
      split
      · next hb =>
        have hne : a ≠ c.1 := by omega
        simp only [memRead, if_neg hne]
        rw [hb]
        exact memRead_below h.2 (by omega)
      · simp [memRead]
    · split
      · next heq =>
        split
        · next hb => rw [hb]; exact memRead_below h.2 (by omega)
        · simp [memRead]
      · next hne =>
        simp only [memRead, if_neg hne]
        exact ih h.2

/-- A write leaves every other byte alone. -/
theorem memRead_memWrite_ne {a x : Nat} {b : Byte} (m : List Host.Cell) (hx : x ≠ a) :
    memRead (memWrite m a b) x = memRead m x := by
  induction m with
  | nil =>
    unfold memWrite
    split
    · rfl
    · simp [memRead, hx]
  | cons c m ih =>
    unfold memWrite
    split
    · split
      · rfl
      · simp [memRead, hx]
    · split
      · next heq =>
        have : x ≠ c.1 := heq ▸ hx
        split
        · simp [memRead, this]
        · simp [memRead, hx, this]
      · simp only [memRead, ih]

/-- A write keeps the canonical form. -/
theorem memWfFrom_memWrite {lo a : Nat} {b : Byte} {m : List Host.Cell} (h : memWfFrom lo m = true) (hlo : lo ≤ a)
    (ha : a < 2 ^ 32) : memWfFrom lo (memWrite m a b) = true := by
  induction m generalizing lo with
  | nil =>
    unfold memWrite
    split
    · rfl
    · next hb => simp [memWfFrom, hlo, hb]; omega
  | cons c m ih =>
    have hc := h
    simp only [memWfFrom, Bool.and_eq_true, decide_eq_true_eq] at h
    unfold memWrite
    split
    · next hlt =>
      split
      · exact hc
      · next hb =>
        simp only [memWfFrom, Bool.and_eq_true, decide_eq_true_eq]
        exact ⟨⟨⟨hlo, ha⟩, by simpa using hb⟩, ⟨⟨by omega, h.1.1.2⟩, h.1.2⟩, h.2⟩
    · split
      · next heq =>
        split
        · exact memWfFrom_mono h.2 (by omega)
        · next hb =>
          simp only [memWfFrom, Bool.and_eq_true, decide_eq_true_eq]
          exact ⟨⟨⟨hlo, ha⟩, by simpa using hb⟩, memWfFrom_mono h.2 (by omega)⟩
      · next hne =>
        simp only [memWfFrom, Bool.and_eq_true, decide_eq_true_eq]
        exact ⟨⟨⟨h.1.1.1, h.1.1.2⟩, h.1.2⟩, ih h.2 (by omega)⟩

/-- One write keeps the canonical form of the whole memory. -/
theorem wf_memWrite {a : Nat} {b : Byte} {m : List Host.Cell} (h : Memory.wf m = true) (ha : a < 2 ^ 32) :
    Memory.wf (memWrite m a b) = true :=
  memWfFrom_memWrite h (Nat.zero_le a) ha

/-- Several writes keep the canonical form. -/
theorem wf_memWriteAll {m cells : List Host.Cell} (h : Memory.wf m = true) (hc : ∀ c ∈ cells, c.1 < 2 ^ 32) :
    Memory.wf (memWriteAll m cells) = true := by
  induction cells generalizing m with
  | nil => exact h
  | cons c cells ih =>
    exact ih (wf_memWrite h (hc c (List.mem_cons_self ..))) fun c' hc' => hc c' (List.mem_cons_of_mem _ hc')

/-- Memory of any contents is in canonical form. -/
theorem wf_openMemory (tick : Nat) : Memory.wf (openMemory tick) = true :=
  wf_memWriteAll rfl fun _ hc => of_decide_eq_true (List.mem_filter.mp hc).2

/-- Physical addresses are below 2^32. -/
theorem physicalCells_lt {cells : List (Word × Byte)} {c : Host.Cell} (hc : c ∈ physicalCells cells) : c.1 < 2 ^ 32 := by
  simp only [physicalCells, List.mem_map] at hc
  obtain ⟨d, _, rfl⟩ := hc
  exact (translate d.1).isLt

/-- The cells a store writes are those that lie in memory. -/
theorem mem_memoryCells {s : State} {cells : List (Word × Byte)} {c : Host.Cell} :
    c ∈ s.memoryCells cells ↔ c ∈ physicalCells cells ∧ s.product.isDevice c.1 = false := by
  simp [State.memoryCells]

/-- Where no device answers, a store writes all its cells. -/
theorem memoryCells_eq {s : State} {cells : List (Word × Byte)} (h : ∀ c ∈ cells, s.onDevice c.1 = false) :
    s.memoryCells cells = physicalCells cells := by
  rw [State.memoryCells, List.filter_eq_self]
  intro c hc
  simp only [physicalCells, List.mem_map] at hc
  obtain ⟨d, hd, rfl⟩ := hc
  have := h d hd
  simp only [State.onDevice] at this
  simp [this]

/-- A store keeps the canonical form. -/
theorem wf_storeCells {m : List Host.Cell} (h : Memory.wf m = true) (s : State) (cells : List (Word × Byte)) :
    Memory.wf (memWriteAll m (s.memoryCells cells)) = true :=
  wf_memWriteAll h fun _ hc => physicalCells_lt (mem_memoryCells.mp hc).1

/-- Several writes leave every byte alone whose address they do not name. -/
theorem memRead_memWriteAll_ne {m cells : List Host.Cell} {x : Nat} (hx : ∀ c ∈ cells, x ≠ c.1) :
    memRead (memWriteAll m cells) x = memRead m x := by
  induction cells generalizing m with
  | nil => rfl
  | cons c cells ih =>
    rw [show memWriteAll m (c :: cells) = memWriteAll (memWrite m c.1 c.2) cells from rfl,
      ih fun c' hc' => hx c' (List.mem_cons_of_mem _ hc'), memRead_memWrite_ne m (hx c (List.mem_cons_self ..))]

/-- After writes to pairwise different addresses, each reads what was written to it. -/
theorem memRead_memWriteAll_mem {m cells : List Host.Cell} {c : Host.Cell} (h : Memory.wf m = true)
    (hb : ∀ c ∈ cells, c.1 < 2 ^ 32) (hd : (cells.map (·.1)).Nodup) (hc : c ∈ cells) :
    memRead (memWriteAll m cells) c.1 = c.2 := by
  induction cells generalizing m with
  | nil => cases hc
  | cons d cells ih =>
    simp only [List.map_cons, List.nodup_cons] at hd
    change memRead (memWriteAll (memWrite m d.1 d.2) cells) c.1 = c.2
    rcases List.mem_cons.mp hc with rfl | hc
    · rw [memRead_memWriteAll_ne fun e he heq => hd.1 (List.mem_map.mpr ⟨e, he, heq.symm⟩)]
      exact memRead_memWrite_self h
    · exact ih (wf_memWrite h (hb d (List.mem_cons_self ..))) (fun e he => hb e (List.mem_cons_of_mem _ he)) hd.2 hc

/-- Writes that are left out do not matter to a byte they do not name. -/
theorem memRead_memWriteAll_filter {m m' cells : List Host.Cell} {keep : Host.Cell → Bool} {a : Nat}
    (h : Memory.wf m = true) (h' : Memory.wf m' = true) (hb : ∀ c ∈ cells, c.1 < 2 ^ 32)
    (hk : ∀ c ∈ cells, c.1 = a → keep c = true) (hm : memRead m a = memRead m' a) :
    memRead (memWriteAll m (cells.filter keep)) a = memRead (memWriteAll m' cells) a := by
  induction cells generalizing m m' with
  | nil => exact hm
  | cons c cells ih =>
    have hb' := fun d hd => hb d (List.mem_cons_of_mem c hd)
    have hk' := fun d hd => hk d (List.mem_cons_of_mem c hd)
    have hw' := wf_memWrite (b := c.2) h' (hb c (List.mem_cons_self ..))
    by_cases hc : keep c = true
    · rw [List.filter_cons_of_pos hc]
      refine ih (wf_memWrite h (hb c (List.mem_cons_self ..))) hw' hb' hk' ?_
      by_cases ha : a = c.1
      · subst ha; rw [memRead_memWrite_self h, memRead_memWrite_self h']
      · rw [memRead_memWrite_ne m ha, memRead_memWrite_ne m' ha, hm]
    · rw [List.filter_cons_of_neg hc]
      refine ih h hw' hb' hk' ?_
      rw [memRead_memWrite_ne m' fun ha => hc (hk c (List.mem_cons_self ..) ha.symm), hm]

/-- What a store leaves at an address: memory as before where a device answers, else what the cells say. -/
theorem memRead_memoryCells {s : State} (h : Memory.wf s.mem = true) (cells : List (Word × Byte)) (a : Nat) :
    memRead (memWriteAll s.mem (s.memoryCells cells)) a =
      if s.product.isDevice a then memRead s.mem a else memRead (memWriteAll s.mem (physicalCells cells)) a := by
  split
  · next hd =>
    refine memRead_memWriteAll_ne fun c hc ha => ?_
    subst ha
    rw [(mem_memoryCells.mp hc).2] at hd
    cases hd
  · next hd =>
    refine memRead_memWriteAll_filter h h (fun _ => physicalCells_lt) (fun c _ hc => ?_) rfl
    subst hc
    simpa using hd

/-- The byte at an address where no device answers is memory's. -/
theorem State.byteAt_memory {s : State} {va : Word} (h : s.onDevice va = false) :
    s.byteAt va = memRead s.mem (translate va).toNat := by
  simp [State.byteAt, h]

end Sys2Proof.Machine
end

