-- ==== Sys2Proof/Laws/State.lean ====
section
/-! SUPPORT. One lemma per field per update of the state, each true by definition, so that no proof unfolds an update. -/

namespace Sys2Proof.Machine

section setReg
variable (s : State) (r : Reg) (v : Word)
@[simp] theorem State.setReg_gpr : (s.setReg r v).gpr = writeGpr s.gpr r v := rfl
@[simp] theorem State.setReg_hi : (s.setReg r v).hi = s.hi := rfl
@[simp] theorem State.setReg_lo : (s.setReg r v).lo = s.lo := rfl
@[simp] theorem State.setReg_pc : (s.setReg r v).pc = s.pc := rfl
@[simp] theorem State.setReg_config : (s.setReg r v).config = s.config := rfl
@[simp] theorem State.setReg_badVAddr : (s.setReg r v).badVAddr = s.badVAddr := rfl
@[simp] theorem State.setReg_status : (s.setReg r v).status = s.status := rfl
@[simp] theorem State.setReg_cause : (s.setReg r v).cause = s.cause := rfl
@[simp] theorem State.setReg_epc : (s.setReg r v).epc = s.epc := rfl
@[simp] theorem State.setReg_debug : (s.setReg r v).debug = s.debug := rfl
@[simp] theorem State.setReg_depc : (s.setReg r v).depc = s.depc := rfl
@[simp] theorem State.setReg_mem : (s.setReg r v).mem = s.mem := rfl
@[simp] theorem State.setReg_slot : (s.setReg r v).slot = s.slot := rfl
@[simp] theorem State.setReg_prev : (s.setReg r v).prev = s.prev := rfl
@[simp] theorem State.setReg_ssSkip : (s.setReg r v).ssSkip = s.ssSkip := rfl
@[simp] theorem State.setReg_nmiPending : (s.setReg r v).nmiPending = s.nmiPending := rfl
@[simp] theorem State.setReg_dbe : (s.setReg r v).dbe = s.dbe := rfl
@[simp] theorem State.setReg_depcWait : (s.setReg r v).depcWait = s.depcWait := rfl
@[simp] theorem State.setReg_storeWindow : (s.setReg r v).storeWindow = s.storeWindow := rfl
@[simp] theorem State.setReg_irqLevel : (s.setReg r v).irqLevel = s.irqLevel := rfl
@[simp] theorem State.setReg_cpcond : (s.setReg r v).cpcond = s.cpcond := rfl
@[simp] theorem State.setReg_cpcondPrev : (s.setReg r v).cpcondPrev = s.cpcondPrev := rfl
@[simp] theorem State.setReg_cop1 : (s.setReg r v).cop1 = s.cop1 := rfl
@[simp] theorem State.setReg_cop2 : (s.setReg r v).cop2 = s.cop2 := rfl
@[simp] theorem State.setReg_cop3 : (s.setReg r v).cop3 = s.cop3 := rfl
@[simp] theorem State.setReg_product : (s.setReg r v).product = s.product := rfl
@[simp] theorem State.setReg_busErrors : (s.setReg r v).busErrors = s.busErrors := rfl
@[simp] theorem State.setReg_inputs : (s.setReg r v).inputs = s.inputs := rfl
@[simp] theorem State.setReg_tick : (s.setReg r v).tick = s.tick := rfl
end setReg

section finish
variable (s : State) (len : Word)
@[simp] theorem State.finish_gpr : (s.finish len).gpr = s.gpr := rfl
@[simp] theorem State.finish_hi : (s.finish len).hi = s.hi := rfl
@[simp] theorem State.finish_lo : (s.finish len).lo = s.lo := rfl
@[simp] theorem State.finish_pc : (s.finish len).pc = s.nextPc len := rfl
@[simp] theorem State.finish_config : (s.finish len).config = s.config := rfl
@[simp] theorem State.finish_badVAddr : (s.finish len).badVAddr = s.badVAddr := rfl
@[simp] theorem State.finish_status : (s.finish len).status = s.status := rfl
@[simp] theorem State.finish_cause : (s.finish len).cause = s.cause := rfl
@[simp] theorem State.finish_epc : (s.finish len).epc = s.epc := rfl
@[simp] theorem State.finish_debug : (s.finish len).debug = if s.leavesDebug then s.debug &&& 0xBFFFFFFF else s.debug := rfl
@[simp] theorem State.finish_depc : (s.finish len).depc = s.depc := rfl
@[simp] theorem State.finish_mem : (s.finish len).mem = s.mem := rfl
@[simp] theorem State.finish_slot : (s.finish len).slot = none := rfl
@[simp] theorem State.finish_prev : (s.finish len).prev = .other := rfl
@[simp] theorem State.finish_ssSkip : (s.finish len).ssSkip = s.leavesDebug := rfl
@[simp] theorem State.finish_nmiPending : (s.finish len).nmiPending = s.nmiPending := rfl
@[simp] theorem State.finish_dbe : (s.finish len).dbe = s.dbe := rfl
@[simp] theorem State.finish_depcWait : (s.finish len).depcWait = s.depcWait := rfl
@[simp] theorem State.finish_storeWindow : (s.finish len).storeWindow = s.storeWindow := rfl
@[simp] theorem State.finish_irqLevel : (s.finish len).irqLevel = s.irqLevel := rfl
@[simp] theorem State.finish_cpcond : (s.finish len).cpcond = s.cpcond := rfl
@[simp] theorem State.finish_cpcondPrev : (s.finish len).cpcondPrev = s.cpcondPrev := rfl
@[simp] theorem State.finish_cop1 : (s.finish len).cop1 = s.cop1 := rfl
@[simp] theorem State.finish_cop2 : (s.finish len).cop2 = s.cop2 := rfl
@[simp] theorem State.finish_cop3 : (s.finish len).cop3 = s.cop3 := rfl
@[simp] theorem State.finish_product : (s.finish len).product = s.product := rfl
@[simp] theorem State.finish_busErrors : (s.finish len).busErrors = s.busErrors := rfl
@[simp] theorem State.finish_inputs : (s.finish len).inputs = s.inputs := rfl
@[simp] theorem State.finish_tick : (s.finish len).tick = s.tick := rfl
end finish

section finishAs
variable (s : State) (p : Prev) (len : Word)
@[simp] theorem State.finishAs_gpr : (s.finishAs p len).gpr = s.gpr := rfl
@[simp] theorem State.finishAs_hi : (s.finishAs p len).hi = s.hi := rfl
@[simp] theorem State.finishAs_lo : (s.finishAs p len).lo = s.lo := rfl
@[simp] theorem State.finishAs_pc : (s.finishAs p len).pc = s.nextPc len := rfl
@[simp] theorem State.finishAs_config : (s.finishAs p len).config = s.config := rfl
@[simp] theorem State.finishAs_badVAddr : (s.finishAs p len).badVAddr = s.badVAddr := rfl
@[simp] theorem State.finishAs_status : (s.finishAs p len).status = s.status := rfl
@[simp] theorem State.finishAs_cause : (s.finishAs p len).cause = s.cause := rfl
@[simp] theorem State.finishAs_epc : (s.finishAs p len).epc = s.epc := rfl
@[simp] theorem State.finishAs_debug : (s.finishAs p len).debug = if s.leavesDebug then s.debug &&& 0xBFFFFFFF else s.debug := rfl
@[simp] theorem State.finishAs_depc : (s.finishAs p len).depc = s.depc := rfl
@[simp] theorem State.finishAs_mem : (s.finishAs p len).mem = s.mem := rfl
@[simp] theorem State.finishAs_slot : (s.finishAs p len).slot = none := rfl
@[simp] theorem State.finishAs_prev : (s.finishAs p len).prev = p := rfl
@[simp] theorem State.finishAs_ssSkip : (s.finishAs p len).ssSkip = s.leavesDebug := rfl
@[simp] theorem State.finishAs_nmiPending : (s.finishAs p len).nmiPending = s.nmiPending := rfl
@[simp] theorem State.finishAs_dbe : (s.finishAs p len).dbe = s.dbe := rfl
@[simp] theorem State.finishAs_depcWait : (s.finishAs p len).depcWait = s.depcWait := rfl
@[simp] theorem State.finishAs_storeWindow : (s.finishAs p len).storeWindow = s.storeWindow := rfl
@[simp] theorem State.finishAs_irqLevel : (s.finishAs p len).irqLevel = s.irqLevel := rfl
@[simp] theorem State.finishAs_cpcond : (s.finishAs p len).cpcond = s.cpcond := rfl
@[simp] theorem State.finishAs_cpcondPrev : (s.finishAs p len).cpcondPrev = s.cpcondPrev := rfl
@[simp] theorem State.finishAs_cop1 : (s.finishAs p len).cop1 = s.cop1 := rfl
@[simp] theorem State.finishAs_cop2 : (s.finishAs p len).cop2 = s.cop2 := rfl
@[simp] theorem State.finishAs_cop3 : (s.finishAs p len).cop3 = s.cop3 := rfl
@[simp] theorem State.finishAs_product : (s.finishAs p len).product = s.product := rfl
@[simp] theorem State.finishAs_busErrors : (s.finishAs p len).busErrors = s.busErrors := rfl
@[simp] theorem State.finishAs_inputs : (s.finishAs p len).inputs = s.inputs := rfl
@[simp] theorem State.finishAs_tick : (s.finishAs p len).tick = s.tick := rfl
end finishAs

section startTransfer
variable (s : State) (len target : Word) (nullify leavesDebug : Bool)
@[simp] theorem State.startTransfer_gpr : (s.startTransfer len target nullify leavesDebug).gpr = s.gpr := rfl
@[simp] theorem State.startTransfer_hi : (s.startTransfer len target nullify leavesDebug).hi = s.hi := rfl
@[simp] theorem State.startTransfer_lo : (s.startTransfer len target nullify leavesDebug).lo = s.lo := rfl
@[simp] theorem State.startTransfer_pc : (s.startTransfer len target nullify leavesDebug).pc = s.pc + len := rfl
@[simp] theorem State.startTransfer_config : (s.startTransfer len target nullify leavesDebug).config = s.config := rfl
@[simp] theorem State.startTransfer_badVAddr : (s.startTransfer len target nullify leavesDebug).badVAddr = s.badVAddr := rfl
@[simp] theorem State.startTransfer_status : (s.startTransfer len target nullify leavesDebug).status = s.status := rfl
@[simp] theorem State.startTransfer_cause : (s.startTransfer len target nullify leavesDebug).cause = s.cause := rfl
@[simp] theorem State.startTransfer_epc : (s.startTransfer len target nullify leavesDebug).epc = s.epc := rfl
@[simp] theorem State.startTransfer_debug : (s.startTransfer len target nullify leavesDebug).debug = s.debug := rfl
@[simp] theorem State.startTransfer_depc : (s.startTransfer len target nullify leavesDebug).depc = s.depc := rfl
@[simp] theorem State.startTransfer_mem : (s.startTransfer len target nullify leavesDebug).mem = s.mem := rfl
@[simp] theorem State.startTransfer_slot : (s.startTransfer len target nullify leavesDebug).slot = some ⟨s.pc, target, nullify, leavesDebug⟩ := rfl
@[simp] theorem State.startTransfer_prev : (s.startTransfer len target nullify leavesDebug).prev = .other := rfl
@[simp] theorem State.startTransfer_ssSkip : (s.startTransfer len target nullify leavesDebug).ssSkip = false := rfl
@[simp] theorem State.startTransfer_nmiPending : (s.startTransfer len target nullify leavesDebug).nmiPending = s.nmiPending := rfl
@[simp] theorem State.startTransfer_dbe : (s.startTransfer len target nullify leavesDebug).dbe = s.dbe := rfl
@[simp] theorem State.startTransfer_depcWait : (s.startTransfer len target nullify leavesDebug).depcWait = s.depcWait := rfl
@[simp] theorem State.startTransfer_storeWindow : (s.startTransfer len target nullify leavesDebug).storeWindow = s.storeWindow := rfl
@[simp] theorem State.startTransfer_irqLevel : (s.startTransfer len target nullify leavesDebug).irqLevel = s.irqLevel := rfl
@[simp] theorem State.startTransfer_cpcond : (s.startTransfer len target nullify leavesDebug).cpcond = s.cpcond := rfl
@[simp] theorem State.startTransfer_cpcondPrev : (s.startTransfer len target nullify leavesDebug).cpcondPrev = s.cpcondPrev := rfl
@[simp] theorem State.startTransfer_cop1 : (s.startTransfer len target nullify leavesDebug).cop1 = s.cop1 := rfl
@[simp] theorem State.startTransfer_cop2 : (s.startTransfer len target nullify leavesDebug).cop2 = s.cop2 := rfl
@[simp] theorem State.startTransfer_cop3 : (s.startTransfer len target nullify leavesDebug).cop3 = s.cop3 := rfl
@[simp] theorem State.startTransfer_product : (s.startTransfer len target nullify leavesDebug).product = s.product := rfl
@[simp] theorem State.startTransfer_busErrors : (s.startTransfer len target nullify leavesDebug).busErrors = s.busErrors := rfl
@[simp] theorem State.startTransfer_inputs : (s.startTransfer len target nullify leavesDebug).inputs = s.inputs := rfl
@[simp] theorem State.startTransfer_tick : (s.startTransfer len target nullify leavesDebug).tick = s.tick := rfl
end startTransfer

section branchTo
variable (s : State) (target : Word)
@[simp] theorem State.branchTo_gpr : (s.branchTo target).gpr = s.gpr := rfl
@[simp] theorem State.branchTo_hi : (s.branchTo target).hi = s.hi := rfl
@[simp] theorem State.branchTo_lo : (s.branchTo target).lo = s.lo := rfl
@[simp] theorem State.branchTo_pc : (s.branchTo target).pc = target := rfl
@[simp] theorem State.branchTo_config : (s.branchTo target).config = s.config := rfl
@[simp] theorem State.branchTo_badVAddr : (s.branchTo target).badVAddr = s.badVAddr := rfl
@[simp] theorem State.branchTo_status : (s.branchTo target).status = s.status := rfl
@[simp] theorem State.branchTo_cause : (s.branchTo target).cause = s.cause := rfl
@[simp] theorem State.branchTo_epc : (s.branchTo target).epc = s.epc := rfl
@[simp] theorem State.branchTo_debug : (s.branchTo target).debug = s.debug := rfl
@[simp] theorem State.branchTo_depc : (s.branchTo target).depc = s.depc := rfl
@[simp] theorem State.branchTo_mem : (s.branchTo target).mem = s.mem := rfl
@[simp] theorem State.branchTo_slot : (s.branchTo target).slot = none := rfl
@[simp] theorem State.branchTo_prev : (s.branchTo target).prev = .other := rfl
@[simp] theorem State.branchTo_ssSkip : (s.branchTo target).ssSkip = false := rfl
@[simp] theorem State.branchTo_nmiPending : (s.branchTo target).nmiPending = s.nmiPending := rfl
@[simp] theorem State.branchTo_dbe : (s.branchTo target).dbe = s.dbe := rfl
@[simp] theorem State.branchTo_depcWait : (s.branchTo target).depcWait = s.depcWait := rfl
@[simp] theorem State.branchTo_storeWindow : (s.branchTo target).storeWindow = s.storeWindow := rfl
@[simp] theorem State.branchTo_irqLevel : (s.branchTo target).irqLevel = s.irqLevel := rfl
@[simp] theorem State.branchTo_cpcond : (s.branchTo target).cpcond = s.cpcond := rfl
@[simp] theorem State.branchTo_cpcondPrev : (s.branchTo target).cpcondPrev = s.cpcondPrev := rfl
@[simp] theorem State.branchTo_cop1 : (s.branchTo target).cop1 = s.cop1 := rfl
@[simp] theorem State.branchTo_cop2 : (s.branchTo target).cop2 = s.cop2 := rfl
@[simp] theorem State.branchTo_cop3 : (s.branchTo target).cop3 = s.cop3 := rfl
@[simp] theorem State.branchTo_product : (s.branchTo target).product = s.product := rfl
@[simp] theorem State.branchTo_busErrors : (s.branchTo target).busErrors = s.busErrors := rfl
@[simp] theorem State.branchTo_inputs : (s.branchTo target).inputs = s.inputs := rfl
@[simp] theorem State.branchTo_tick : (s.branchTo target).tick = s.tick := rfl
end branchTo

section generalRegs
variable (s : State) (e : Exn) (epc : Word) (bd : Bool)
@[simp] theorem State.generalRegs_gpr : (s.generalRegs e epc bd).gpr = s.gpr := rfl
@[simp] theorem State.generalRegs_hi : (s.generalRegs e epc bd).hi = s.hi := rfl
@[simp] theorem State.generalRegs_lo : (s.generalRegs e epc bd).lo = s.lo := rfl
@[simp] theorem State.generalRegs_pc : (s.generalRegs e epc bd).pc = s.pc := rfl
@[simp] theorem State.generalRegs_config : (s.generalRegs e epc bd).config = e.configAfter s.config := rfl
@[simp] theorem State.generalRegs_badVAddr : (s.generalRegs e epc bd).badVAddr = e.badVAddrAfter s.badVAddr := rfl
@[simp] theorem State.generalRegs_status : (s.generalRegs e epc bd).status = e.statusAfter s.status := rfl
@[simp] theorem State.generalRegs_cause : (s.generalRegs e epc bd).cause = e.causeAfter bd s := rfl
@[simp] theorem State.generalRegs_epc : (s.generalRegs e epc bd).epc = epc := rfl
@[simp] theorem State.generalRegs_debug : (s.generalRegs e epc bd).debug = s.debug := rfl
@[simp] theorem State.generalRegs_depc : (s.generalRegs e epc bd).depc = s.depc := rfl
@[simp] theorem State.generalRegs_mem : (s.generalRegs e epc bd).mem = s.mem := rfl
@[simp] theorem State.generalRegs_slot : (s.generalRegs e epc bd).slot = s.slot := rfl
@[simp] theorem State.generalRegs_prev : (s.generalRegs e epc bd).prev = s.prev := rfl
@[simp] theorem State.generalRegs_ssSkip : (s.generalRegs e epc bd).ssSkip = s.ssSkip := rfl
@[simp] theorem State.generalRegs_nmiPending : (s.generalRegs e epc bd).nmiPending = (s.nmiPending && e != .nmi) := rfl
@[simp] theorem State.generalRegs_dbe : (s.generalRegs e epc bd).dbe = s.dbe := rfl
@[simp] theorem State.generalRegs_depcWait : (s.generalRegs e epc bd).depcWait = s.depcWait := rfl
@[simp] theorem State.generalRegs_storeWindow : (s.generalRegs e epc bd).storeWindow = s.storeWindow := rfl
@[simp] theorem State.generalRegs_irqLevel : (s.generalRegs e epc bd).irqLevel = s.irqLevel := rfl
@[simp] theorem State.generalRegs_cpcond : (s.generalRegs e epc bd).cpcond = s.cpcond := rfl
@[simp] theorem State.generalRegs_cpcondPrev : (s.generalRegs e epc bd).cpcondPrev = s.cpcondPrev := rfl
@[simp] theorem State.generalRegs_cop1 : (s.generalRegs e epc bd).cop1 = s.cop1 := rfl
@[simp] theorem State.generalRegs_cop2 : (s.generalRegs e epc bd).cop2 = s.cop2 := rfl
@[simp] theorem State.generalRegs_cop3 : (s.generalRegs e epc bd).cop3 = s.cop3 := rfl
@[simp] theorem State.generalRegs_product : (s.generalRegs e epc bd).product = s.product := rfl
@[simp] theorem State.generalRegs_busErrors : (s.generalRegs e epc bd).busErrors = s.busErrors := rfl
@[simp] theorem State.generalRegs_inputs : (s.generalRegs e epc bd).inputs = s.inputs := rfl
@[simp] theorem State.generalRegs_tick : (s.generalRegs e epc bd).tick = s.tick := rfl
end generalRegs

section enterAt
variable (s : State) (vector : Word)
@[simp] theorem State.enterAt_gpr : (s.enterAt vector).gpr = s.gpr := rfl
@[simp] theorem State.enterAt_hi : (s.enterAt vector).hi = s.hi := rfl
@[simp] theorem State.enterAt_lo : (s.enterAt vector).lo = s.lo := rfl
@[simp] theorem State.enterAt_pc : (s.enterAt vector).pc = vector := rfl
@[simp] theorem State.enterAt_config : (s.enterAt vector).config = s.config := rfl
@[simp] theorem State.enterAt_badVAddr : (s.enterAt vector).badVAddr = s.badVAddr := rfl
@[simp] theorem State.enterAt_status : (s.enterAt vector).status = s.status := rfl
@[simp] theorem State.enterAt_cause : (s.enterAt vector).cause = s.cause := rfl
@[simp] theorem State.enterAt_epc : (s.enterAt vector).epc = s.epc := rfl
@[simp] theorem State.enterAt_debug : (s.enterAt vector).debug = s.debug := rfl
@[simp] theorem State.enterAt_depc : (s.enterAt vector).depc = s.depc := rfl
@[simp] theorem State.enterAt_mem : (s.enterAt vector).mem = s.mem := rfl
@[simp] theorem State.enterAt_slot : (s.enterAt vector).slot = none := rfl
@[simp] theorem State.enterAt_prev : (s.enterAt vector).prev = .entry := rfl
@[simp] theorem State.enterAt_ssSkip : (s.enterAt vector).ssSkip = false := rfl
@[simp] theorem State.enterAt_nmiPending : (s.enterAt vector).nmiPending = s.nmiPending := rfl
@[simp] theorem State.enterAt_dbe : (s.enterAt vector).dbe = s.dbe := rfl
@[simp] theorem State.enterAt_depcWait : (s.enterAt vector).depcWait = s.depcWait := rfl
@[simp] theorem State.enterAt_storeWindow : (s.enterAt vector).storeWindow = [] := rfl
@[simp] theorem State.enterAt_irqLevel : (s.enterAt vector).irqLevel = s.irqLevel := rfl
@[simp] theorem State.enterAt_cpcond : (s.enterAt vector).cpcond = s.cpcond := rfl
@[simp] theorem State.enterAt_cpcondPrev : (s.enterAt vector).cpcondPrev = s.cpcondPrev := rfl
@[simp] theorem State.enterAt_cop1 : (s.enterAt vector).cop1 = s.cop1 := rfl
@[simp] theorem State.enterAt_cop2 : (s.enterAt vector).cop2 = s.cop2 := rfl
@[simp] theorem State.enterAt_cop3 : (s.enterAt vector).cop3 = s.cop3 := rfl
@[simp] theorem State.enterAt_product : (s.enterAt vector).product = s.product := rfl
@[simp] theorem State.enterAt_busErrors : (s.enterAt vector).busErrors = s.busErrors := rfl
@[simp] theorem State.enterAt_inputs : (s.enterAt vector).inputs = s.inputs := rfl
@[simp] theorem State.enterAt_tick : (s.enterAt vector).tick = s.tick := rfl
end enterAt

section takeWith
variable (s : State) (e : Exn) (epc : Word) (bd : Bool)
@[simp] theorem State.takeWith_gpr : (s.takeWith e epc bd).gpr = s.gpr := rfl
@[simp] theorem State.takeWith_hi : (s.takeWith e epc bd).hi = s.hi := rfl
@[simp] theorem State.takeWith_lo : (s.takeWith e epc bd).lo = s.lo := rfl
@[simp] theorem State.takeWith_pc : (s.takeWith e epc bd).pc = e.vector (bit s.status 22) := rfl
@[simp] theorem State.takeWith_config : (s.takeWith e epc bd).config = e.configAfter s.config := rfl
@[simp] theorem State.takeWith_badVAddr : (s.takeWith e epc bd).badVAddr = e.badVAddrAfter s.badVAddr := rfl
@[simp] theorem State.takeWith_status : (s.takeWith e epc bd).status = e.statusAfter s.status := rfl
@[simp] theorem State.takeWith_cause : (s.takeWith e epc bd).cause = e.causeAfter bd s := rfl
@[simp] theorem State.takeWith_epc : (s.takeWith e epc bd).epc = epc := rfl
@[simp] theorem State.takeWith_debug : (s.takeWith e epc bd).debug = s.debug := rfl
@[simp] theorem State.takeWith_depc : (s.takeWith e epc bd).depc = s.depc := rfl
@[simp] theorem State.takeWith_mem : (s.takeWith e epc bd).mem = s.mem := rfl
@[simp] theorem State.takeWith_slot : (s.takeWith e epc bd).slot = none := rfl
@[simp] theorem State.takeWith_prev : (s.takeWith e epc bd).prev = .entry := rfl
@[simp] theorem State.takeWith_ssSkip : (s.takeWith e epc bd).ssSkip = false := rfl
@[simp] theorem State.takeWith_nmiPending : (s.takeWith e epc bd).nmiPending = (s.nmiPending && e != .nmi) := rfl
@[simp] theorem State.takeWith_dbe : (s.takeWith e epc bd).dbe = s.dbe := rfl
@[simp] theorem State.takeWith_depcWait : (s.takeWith e epc bd).depcWait = s.depcWait := rfl
@[simp] theorem State.takeWith_storeWindow : (s.takeWith e epc bd).storeWindow = [] := rfl
@[simp] theorem State.takeWith_irqLevel : (s.takeWith e epc bd).irqLevel = s.irqLevel := rfl
@[simp] theorem State.takeWith_cpcond : (s.takeWith e epc bd).cpcond = s.cpcond := rfl
@[simp] theorem State.takeWith_cpcondPrev : (s.takeWith e epc bd).cpcondPrev = s.cpcondPrev := rfl
@[simp] theorem State.takeWith_cop1 : (s.takeWith e epc bd).cop1 = s.cop1 := rfl
@[simp] theorem State.takeWith_cop2 : (s.takeWith e epc bd).cop2 = s.cop2 := rfl
@[simp] theorem State.takeWith_cop3 : (s.takeWith e epc bd).cop3 = s.cop3 := rfl
@[simp] theorem State.takeWith_product : (s.takeWith e epc bd).product = s.product := rfl
@[simp] theorem State.takeWith_busErrors : (s.takeWith e epc bd).busErrors = s.busErrors := rfl
@[simp] theorem State.takeWith_inputs : (s.takeWith e epc bd).inputs = s.inputs := rfl
@[simp] theorem State.takeWith_tick : (s.takeWith e epc bd).tick = s.tick := rfl
end takeWith

section take
variable (s : State) (e : Exn)
@[simp] theorem State.take_gpr : (s.take e).gpr = s.gpr := rfl
@[simp] theorem State.take_hi : (s.take e).hi = s.hi := rfl
@[simp] theorem State.take_lo : (s.take e).lo = s.lo := rfl
@[simp] theorem State.take_pc : (s.take e).pc = e.vector (bit s.status 22) := rfl
@[simp] theorem State.take_config : (s.take e).config = e.configAfter s.config := rfl
@[simp] theorem State.take_badVAddr : (s.take e).badVAddr = e.badVAddrAfter s.badVAddr := rfl
@[simp] theorem State.take_status : (s.take e).status = e.statusAfter s.status := rfl
@[simp] theorem State.take_cause : (s.take e).cause = e.causeAfter s.restart.2 s := rfl
@[simp] theorem State.take_epc : (s.take e).epc = s.restart.1 := rfl
@[simp] theorem State.take_debug : (s.take e).debug = s.debug := rfl
@[simp] theorem State.take_depc : (s.take e).depc = s.depc := rfl
@[simp] theorem State.take_mem : (s.take e).mem = s.mem := rfl
@[simp] theorem State.take_slot : (s.take e).slot = none := rfl
@[simp] theorem State.take_prev : (s.take e).prev = .entry := rfl
@[simp] theorem State.take_ssSkip : (s.take e).ssSkip = false := rfl
@[simp] theorem State.take_nmiPending : (s.take e).nmiPending = (s.nmiPending && e != .nmi) := rfl
@[simp] theorem State.take_dbe : (s.take e).dbe = s.dbe := rfl
@[simp] theorem State.take_depcWait : (s.take e).depcWait = s.depcWait := rfl
@[simp] theorem State.take_storeWindow : (s.take e).storeWindow = [] := rfl
@[simp] theorem State.take_irqLevel : (s.take e).irqLevel = s.irqLevel := rfl
@[simp] theorem State.take_cpcond : (s.take e).cpcond = s.cpcond := rfl
@[simp] theorem State.take_cpcondPrev : (s.take e).cpcondPrev = s.cpcondPrev := rfl
@[simp] theorem State.take_cop1 : (s.take e).cop1 = s.cop1 := rfl
@[simp] theorem State.take_cop2 : (s.take e).cop2 = s.cop2 := rfl
@[simp] theorem State.take_cop3 : (s.take e).cop3 = s.cop3 := rfl
@[simp] theorem State.take_product : (s.take e).product = s.product := rfl
@[simp] theorem State.take_busErrors : (s.take e).busErrors = s.busErrors := rfl
@[simp] theorem State.take_inputs : (s.take e).inputs = s.inputs := rfl
@[simp] theorem State.take_tick : (s.take e).tick = s.tick := rfl
end take

section takeDebug
variable (s : State) (k : DebugKind) (nis oes : Bool)
@[simp] theorem State.takeDebug_gpr : (s.takeDebug k nis oes).gpr = s.gpr := rfl
@[simp] theorem State.takeDebug_hi : (s.takeDebug k nis oes).hi = s.hi := rfl
@[simp] theorem State.takeDebug_lo : (s.takeDebug k nis oes).lo = s.lo := rfl
@[simp] theorem State.takeDebug_pc : (s.takeDebug k nis oes).pc = 0xBFC00200 := rfl
@[simp] theorem State.takeDebug_config : (s.takeDebug k nis oes).config = s.config := rfl
@[simp] theorem State.takeDebug_badVAddr : (s.takeDebug k nis oes).badVAddr = s.badVAddr := rfl
@[simp] theorem State.takeDebug_status : (s.takeDebug k nis oes).status = s.status := rfl
@[simp] theorem State.takeDebug_cause : (s.takeDebug k nis oes).cause = s.cause := rfl
@[simp] theorem State.takeDebug_epc : (s.takeDebug k nis oes).epc = s.epc := rfl
@[simp] theorem State.takeDebug_debug : (s.takeDebug k nis oes).debug = debugAfter k s.restart.2 nis oes s.debug := rfl
@[simp] theorem State.takeDebug_depc : (s.takeDebug k nis oes).depc = s.restart.1 := rfl
@[simp] theorem State.takeDebug_mem : (s.takeDebug k nis oes).mem = s.mem := rfl
@[simp] theorem State.takeDebug_slot : (s.takeDebug k nis oes).slot = none := rfl
@[simp] theorem State.takeDebug_prev : (s.takeDebug k nis oes).prev = .entry := rfl
@[simp] theorem State.takeDebug_ssSkip : (s.takeDebug k nis oes).ssSkip = false := rfl
@[simp] theorem State.takeDebug_nmiPending : (s.takeDebug k nis oes).nmiPending = s.nmiPending := rfl
@[simp] theorem State.takeDebug_dbe : (s.takeDebug k nis oes).dbe = s.dbe := rfl
@[simp] theorem State.takeDebug_depcWait : (s.takeDebug k nis oes).depcWait = s.depcWait := rfl
@[simp] theorem State.takeDebug_storeWindow : (s.takeDebug k nis oes).storeWindow = [] := rfl
@[simp] theorem State.takeDebug_irqLevel : (s.takeDebug k nis oes).irqLevel = s.irqLevel := rfl
@[simp] theorem State.takeDebug_cpcond : (s.takeDebug k nis oes).cpcond = s.cpcond := rfl
@[simp] theorem State.takeDebug_cpcondPrev : (s.takeDebug k nis oes).cpcondPrev = s.cpcondPrev := rfl
@[simp] theorem State.takeDebug_cop1 : (s.takeDebug k nis oes).cop1 = s.cop1 := rfl
@[simp] theorem State.takeDebug_cop2 : (s.takeDebug k nis oes).cop2 = s.cop2 := rfl
@[simp] theorem State.takeDebug_cop3 : (s.takeDebug k nis oes).cop3 = s.cop3 := rfl
@[simp] theorem State.takeDebug_product : (s.takeDebug k nis oes).product = s.product := rfl
@[simp] theorem State.takeDebug_busErrors : (s.takeDebug k nis oes).busErrors = s.busErrors := rfl
@[simp] theorem State.takeDebug_inputs : (s.takeDebug k nis oes).inputs = s.inputs := rfl
@[simp] theorem State.takeDebug_tick : (s.takeDebug k nis oes).tick = s.tick := rfl
end takeDebug

section takeCoincident
variable (s : State) (k : DebugKind) (e : Exn)
@[simp] theorem State.takeCoincident_gpr : (s.takeCoincident k e).gpr = s.gpr := rfl
@[simp] theorem State.takeCoincident_hi : (s.takeCoincident k e).hi = s.hi := rfl
@[simp] theorem State.takeCoincident_lo : (s.takeCoincident k e).lo = s.lo := rfl
@[simp] theorem State.takeCoincident_pc : (s.takeCoincident k e).pc = 0xBFC00200 := rfl
@[simp] theorem State.takeCoincident_config : (s.takeCoincident k e).config = e.configAfter s.config := rfl
@[simp] theorem State.takeCoincident_badVAddr : (s.takeCoincident k e).badVAddr = e.badVAddrAfter s.badVAddr := rfl
@[simp] theorem State.takeCoincident_status : (s.takeCoincident k e).status = e.statusAfter s.status := rfl
@[simp] theorem State.takeCoincident_cause : (s.takeCoincident k e).cause = e.causeAfter s.restart.2 s := rfl
@[simp] theorem State.takeCoincident_epc : (s.takeCoincident k e).epc = s.restart.1 := rfl
@[simp] theorem State.takeCoincident_debug : (s.takeCoincident k e).debug = debugAfter k s.restart.2 (e == .nmi) (e != .nmi) s.debug := rfl
@[simp] theorem State.takeCoincident_depc : (s.takeCoincident k e).depc = s.restart.1 := rfl
@[simp] theorem State.takeCoincident_mem : (s.takeCoincident k e).mem = s.mem := rfl
@[simp] theorem State.takeCoincident_slot : (s.takeCoincident k e).slot = none := rfl
@[simp] theorem State.takeCoincident_prev : (s.takeCoincident k e).prev = .entry := rfl
@[simp] theorem State.takeCoincident_ssSkip : (s.takeCoincident k e).ssSkip = false := rfl
@[simp] theorem State.takeCoincident_nmiPending : (s.takeCoincident k e).nmiPending = (s.nmiPending && e != .nmi) := rfl
@[simp] theorem State.takeCoincident_dbe : (s.takeCoincident k e).dbe = s.dbe := rfl
@[simp] theorem State.takeCoincident_depcWait : (s.takeCoincident k e).depcWait = s.depcWait := rfl
@[simp] theorem State.takeCoincident_storeWindow : (s.takeCoincident k e).storeWindow = [] := rfl
@[simp] theorem State.takeCoincident_irqLevel : (s.takeCoincident k e).irqLevel = s.irqLevel := rfl
@[simp] theorem State.takeCoincident_cpcond : (s.takeCoincident k e).cpcond = s.cpcond := rfl
@[simp] theorem State.takeCoincident_cpcondPrev : (s.takeCoincident k e).cpcondPrev = s.cpcondPrev := rfl
@[simp] theorem State.takeCoincident_cop1 : (s.takeCoincident k e).cop1 = s.cop1 := rfl
@[simp] theorem State.takeCoincident_cop2 : (s.takeCoincident k e).cop2 = s.cop2 := rfl
@[simp] theorem State.takeCoincident_cop3 : (s.takeCoincident k e).cop3 = s.cop3 := rfl
@[simp] theorem State.takeCoincident_product : (s.takeCoincident k e).product = s.product := rfl
@[simp] theorem State.takeCoincident_busErrors : (s.takeCoincident k e).busErrors = s.busErrors := rfl
@[simp] theorem State.takeCoincident_inputs : (s.takeCoincident k e).inputs = s.inputs := rfl
@[simp] theorem State.takeCoincident_tick : (s.takeCoincident k e).tick = s.tick := rfl
end takeCoincident

section dataBusError
variable (s : State) (d : DataBusError)
@[simp] theorem State.dataBusError_gpr : (s.dataBusError d).gpr = s.gpr := rfl
@[simp] theorem State.dataBusError_hi : (s.dataBusError d).hi = s.hi := rfl
@[simp] theorem State.dataBusError_lo : (s.dataBusError d).lo = s.lo := rfl
@[simp] theorem State.dataBusError_pc : (s.dataBusError d).pc = s.pc := rfl
@[simp] theorem State.dataBusError_config : (s.dataBusError d).config = s.config := rfl
@[simp] theorem State.dataBusError_badVAddr : (s.dataBusError d).badVAddr = s.badVAddr := rfl
@[simp] theorem State.dataBusError_status : (s.dataBusError d).status = s.status := rfl
@[simp] theorem State.dataBusError_cause : (s.dataBusError d).cause = s.cause := rfl
@[simp] theorem State.dataBusError_epc : (s.dataBusError d).epc = s.epc := rfl
@[simp] theorem State.dataBusError_debug : (s.dataBusError d).debug = if s.debugMode then s.debug ||| 0x00000400 else s.debug := rfl
@[simp] theorem State.dataBusError_depc : (s.dataBusError d).depc = s.depc := rfl
@[simp] theorem State.dataBusError_mem : (s.dataBusError d).mem = s.mem := rfl
@[simp] theorem State.dataBusError_slot : (s.dataBusError d).slot = s.slot := rfl
@[simp] theorem State.dataBusError_prev : (s.dataBusError d).prev = s.prev := rfl
@[simp] theorem State.dataBusError_ssSkip : (s.dataBusError d).ssSkip = s.ssSkip := rfl
@[simp] theorem State.dataBusError_nmiPending : (s.dataBusError d).nmiPending = s.nmiPending := rfl
@[simp] theorem State.dataBusError_dbe : (s.dataBusError d).dbe = if s.debugMode then s.dbe else some d := rfl
@[simp] theorem State.dataBusError_depcWait : (s.dataBusError d).depcWait = s.depcWait := rfl
@[simp] theorem State.dataBusError_storeWindow : (s.dataBusError d).storeWindow = s.storeWindow := rfl
@[simp] theorem State.dataBusError_irqLevel : (s.dataBusError d).irqLevel = s.irqLevel := rfl
@[simp] theorem State.dataBusError_cpcond : (s.dataBusError d).cpcond = s.cpcond := rfl
@[simp] theorem State.dataBusError_cpcondPrev : (s.dataBusError d).cpcondPrev = s.cpcondPrev := rfl
@[simp] theorem State.dataBusError_cop1 : (s.dataBusError d).cop1 = s.cop1 := rfl
@[simp] theorem State.dataBusError_cop2 : (s.dataBusError d).cop2 = s.cop2 := rfl
@[simp] theorem State.dataBusError_cop3 : (s.dataBusError d).cop3 = s.cop3 := rfl
@[simp] theorem State.dataBusError_product : (s.dataBusError d).product = s.product := rfl
@[simp] theorem State.dataBusError_busErrors : (s.dataBusError d).busErrors = s.busErrors := rfl
@[simp] theorem State.dataBusError_inputs : (s.dataBusError d).inputs = s.inputs := rfl
@[simp] theorem State.dataBusError_tick : (s.dataBusError d).tick = s.tick := rfl
end dataBusError

section storeCells
variable (s : State) (cells : List (Word × Byte))
@[simp] theorem State.storeCells_gpr : (s.storeCells cells).gpr = s.gpr := rfl
@[simp] theorem State.storeCells_hi : (s.storeCells cells).hi = s.hi := rfl
@[simp] theorem State.storeCells_lo : (s.storeCells cells).lo = s.lo := rfl
@[simp] theorem State.storeCells_pc : (s.storeCells cells).pc = s.pc := rfl
@[simp] theorem State.storeCells_config : (s.storeCells cells).config = s.config := rfl
@[simp] theorem State.storeCells_badVAddr : (s.storeCells cells).badVAddr = s.badVAddr := rfl
@[simp] theorem State.storeCells_status : (s.storeCells cells).status = s.status := rfl
@[simp] theorem State.storeCells_cause : (s.storeCells cells).cause = s.cause := rfl
@[simp] theorem State.storeCells_epc : (s.storeCells cells).epc = s.epc := rfl
@[simp] theorem State.storeCells_debug : (s.storeCells cells).debug = s.debug := rfl
@[simp] theorem State.storeCells_depc : (s.storeCells cells).depc = s.depc := rfl
@[simp] theorem State.storeCells_mem : (s.storeCells cells).mem = memWriteAll s.mem (s.memoryCells cells) := rfl
@[simp] theorem State.storeCells_slot : (s.storeCells cells).slot = s.slot := rfl
@[simp] theorem State.storeCells_prev : (s.storeCells cells).prev = s.prev := rfl
@[simp] theorem State.storeCells_ssSkip : (s.storeCells cells).ssSkip = s.ssSkip := rfl
@[simp] theorem State.storeCells_nmiPending : (s.storeCells cells).nmiPending = s.nmiPending := rfl
@[simp] theorem State.storeCells_dbe : (s.storeCells cells).dbe = s.dbe := rfl
@[simp] theorem State.storeCells_depcWait : (s.storeCells cells).depcWait = s.depcWait := rfl
@[simp] theorem State.storeCells_storeWindow : (s.storeCells cells).storeWindow = windowAfter s (s.memoryCells cells) := rfl
@[simp] theorem State.storeCells_irqLevel : (s.storeCells cells).irqLevel = s.irqLevel := rfl
@[simp] theorem State.storeCells_cpcond : (s.storeCells cells).cpcond = s.cpcond := rfl
@[simp] theorem State.storeCells_cpcondPrev : (s.storeCells cells).cpcondPrev = s.cpcondPrev := rfl
@[simp] theorem State.storeCells_cop1 : (s.storeCells cells).cop1 = s.cop1 := rfl
@[simp] theorem State.storeCells_cop2 : (s.storeCells cells).cop2 = s.cop2 := rfl
@[simp] theorem State.storeCells_cop3 : (s.storeCells cells).cop3 = s.cop3 := rfl
@[simp] theorem State.storeCells_product : (s.storeCells cells).product = s.product := rfl
@[simp] theorem State.storeCells_busErrors : (s.storeCells cells).busErrors = s.busErrors := rfl
@[simp] theorem State.storeCells_inputs : (s.storeCells cells).inputs = s.inputs := rfl
@[simp] theorem State.storeCells_tick : (s.storeCells cells).tick = s.tick := rfl
end storeCells

section setHiLo
variable (s : State) (p : BitVec 64)
@[simp] theorem State.setHiLo_gpr : (s.setHiLo p).gpr = s.gpr := rfl
@[simp] theorem State.setHiLo_hi : (s.setHiLo p).hi = hiWord p := rfl
@[simp] theorem State.setHiLo_lo : (s.setHiLo p).lo = loWord p := rfl
@[simp] theorem State.setHiLo_pc : (s.setHiLo p).pc = s.pc := rfl
@[simp] theorem State.setHiLo_config : (s.setHiLo p).config = s.config := rfl
@[simp] theorem State.setHiLo_badVAddr : (s.setHiLo p).badVAddr = s.badVAddr := rfl
@[simp] theorem State.setHiLo_status : (s.setHiLo p).status = s.status := rfl
@[simp] theorem State.setHiLo_cause : (s.setHiLo p).cause = s.cause := rfl
@[simp] theorem State.setHiLo_epc : (s.setHiLo p).epc = s.epc := rfl
@[simp] theorem State.setHiLo_debug : (s.setHiLo p).debug = s.debug := rfl
@[simp] theorem State.setHiLo_depc : (s.setHiLo p).depc = s.depc := rfl
@[simp] theorem State.setHiLo_mem : (s.setHiLo p).mem = s.mem := rfl
@[simp] theorem State.setHiLo_slot : (s.setHiLo p).slot = s.slot := rfl
@[simp] theorem State.setHiLo_prev : (s.setHiLo p).prev = s.prev := rfl
@[simp] theorem State.setHiLo_ssSkip : (s.setHiLo p).ssSkip = s.ssSkip := rfl
@[simp] theorem State.setHiLo_nmiPending : (s.setHiLo p).nmiPending = s.nmiPending := rfl
@[simp] theorem State.setHiLo_dbe : (s.setHiLo p).dbe = s.dbe := rfl
@[simp] theorem State.setHiLo_depcWait : (s.setHiLo p).depcWait = s.depcWait := rfl
@[simp] theorem State.setHiLo_storeWindow : (s.setHiLo p).storeWindow = s.storeWindow := rfl
@[simp] theorem State.setHiLo_irqLevel : (s.setHiLo p).irqLevel = s.irqLevel := rfl
@[simp] theorem State.setHiLo_cpcond : (s.setHiLo p).cpcond = s.cpcond := rfl
@[simp] theorem State.setHiLo_cpcondPrev : (s.setHiLo p).cpcondPrev = s.cpcondPrev := rfl
@[simp] theorem State.setHiLo_cop1 : (s.setHiLo p).cop1 = s.cop1 := rfl
@[simp] theorem State.setHiLo_cop2 : (s.setHiLo p).cop2 = s.cop2 := rfl
@[simp] theorem State.setHiLo_cop3 : (s.setHiLo p).cop3 = s.cop3 := rfl
@[simp] theorem State.setHiLo_product : (s.setHiLo p).product = s.product := rfl
@[simp] theorem State.setHiLo_busErrors : (s.setHiLo p).busErrors = s.busErrors := rfl
@[simp] theorem State.setHiLo_inputs : (s.setHiLo p).inputs = s.inputs := rfl
@[simp] theorem State.setHiLo_tick : (s.setHiLo p).tick = s.tick := rfl
end setHiLo

section openHiLo
variable (s : State)
@[simp] theorem State.openHiLo_gpr : (s.openHiLo).gpr = s.gpr := rfl
@[simp] theorem State.openHiLo_hi : (s.openHiLo).hi = Config.freeWord s.tick .divHi := rfl
@[simp] theorem State.openHiLo_lo : (s.openHiLo).lo = Config.freeWord s.tick .divLo := rfl
@[simp] theorem State.openHiLo_pc : (s.openHiLo).pc = s.pc := rfl
@[simp] theorem State.openHiLo_config : (s.openHiLo).config = s.config := rfl
@[simp] theorem State.openHiLo_badVAddr : (s.openHiLo).badVAddr = s.badVAddr := rfl
@[simp] theorem State.openHiLo_status : (s.openHiLo).status = s.status := rfl
@[simp] theorem State.openHiLo_cause : (s.openHiLo).cause = s.cause := rfl
@[simp] theorem State.openHiLo_epc : (s.openHiLo).epc = s.epc := rfl
@[simp] theorem State.openHiLo_debug : (s.openHiLo).debug = s.debug := rfl
@[simp] theorem State.openHiLo_depc : (s.openHiLo).depc = s.depc := rfl
@[simp] theorem State.openHiLo_mem : (s.openHiLo).mem = s.mem := rfl
@[simp] theorem State.openHiLo_slot : (s.openHiLo).slot = s.slot := rfl
@[simp] theorem State.openHiLo_prev : (s.openHiLo).prev = s.prev := rfl
@[simp] theorem State.openHiLo_ssSkip : (s.openHiLo).ssSkip = s.ssSkip := rfl
@[simp] theorem State.openHiLo_nmiPending : (s.openHiLo).nmiPending = s.nmiPending := rfl
@[simp] theorem State.openHiLo_dbe : (s.openHiLo).dbe = s.dbe := rfl
@[simp] theorem State.openHiLo_depcWait : (s.openHiLo).depcWait = s.depcWait := rfl
@[simp] theorem State.openHiLo_storeWindow : (s.openHiLo).storeWindow = s.storeWindow := rfl
@[simp] theorem State.openHiLo_irqLevel : (s.openHiLo).irqLevel = s.irqLevel := rfl
@[simp] theorem State.openHiLo_cpcond : (s.openHiLo).cpcond = s.cpcond := rfl
@[simp] theorem State.openHiLo_cpcondPrev : (s.openHiLo).cpcondPrev = s.cpcondPrev := rfl
@[simp] theorem State.openHiLo_cop1 : (s.openHiLo).cop1 = s.cop1 := rfl
@[simp] theorem State.openHiLo_cop2 : (s.openHiLo).cop2 = s.cop2 := rfl
@[simp] theorem State.openHiLo_cop3 : (s.openHiLo).cop3 = s.cop3 := rfl
@[simp] theorem State.openHiLo_product : (s.openHiLo).product = s.product := rfl
@[simp] theorem State.openHiLo_busErrors : (s.openHiLo).busErrors = s.busErrors := rfl
@[simp] theorem State.openHiLo_inputs : (s.openHiLo).inputs = s.inputs := rfl
@[simp] theorem State.openHiLo_tick : (s.openHiLo).tick = s.tick := rfl
end openHiLo

section setCop
variable (s : State) (z : BitVec 2) (c : Coprocessor)
@[simp] theorem State.setCop_gpr : (s.setCop z c).gpr = s.gpr := rfl
@[simp] theorem State.setCop_hi : (s.setCop z c).hi = s.hi := rfl
@[simp] theorem State.setCop_lo : (s.setCop z c).lo = s.lo := rfl
@[simp] theorem State.setCop_pc : (s.setCop z c).pc = s.pc := rfl
@[simp] theorem State.setCop_config : (s.setCop z c).config = s.config := rfl
@[simp] theorem State.setCop_badVAddr : (s.setCop z c).badVAddr = s.badVAddr := rfl
@[simp] theorem State.setCop_status : (s.setCop z c).status = s.status := rfl
@[simp] theorem State.setCop_cause : (s.setCop z c).cause = s.cause := rfl
@[simp] theorem State.setCop_epc : (s.setCop z c).epc = s.epc := rfl
@[simp] theorem State.setCop_debug : (s.setCop z c).debug = s.debug := rfl
@[simp] theorem State.setCop_depc : (s.setCop z c).depc = s.depc := rfl
@[simp] theorem State.setCop_mem : (s.setCop z c).mem = s.mem := rfl
@[simp] theorem State.setCop_slot : (s.setCop z c).slot = s.slot := rfl
@[simp] theorem State.setCop_prev : (s.setCop z c).prev = s.prev := rfl
@[simp] theorem State.setCop_ssSkip : (s.setCop z c).ssSkip = s.ssSkip := rfl
@[simp] theorem State.setCop_nmiPending : (s.setCop z c).nmiPending = s.nmiPending := rfl
@[simp] theorem State.setCop_dbe : (s.setCop z c).dbe = s.dbe := rfl
@[simp] theorem State.setCop_depcWait : (s.setCop z c).depcWait = s.depcWait := rfl
@[simp] theorem State.setCop_storeWindow : (s.setCop z c).storeWindow = s.storeWindow := rfl
@[simp] theorem State.setCop_irqLevel : (s.setCop z c).irqLevel = s.irqLevel := rfl
@[simp] theorem State.setCop_cpcond : (s.setCop z c).cpcond = s.cpcond := rfl
@[simp] theorem State.setCop_cpcondPrev : (s.setCop z c).cpcondPrev = s.cpcondPrev := rfl
@[simp] theorem State.setCop_cop1 : (s.setCop z c).cop1 = if z = 1#2 then c else s.cop1 := rfl
@[simp] theorem State.setCop_cop2 : (s.setCop z c).cop2 = if z = 2#2 then c else s.cop2 := rfl
@[simp] theorem State.setCop_cop3 : (s.setCop z c).cop3 = if z = 3#2 then c else s.cop3 := rfl
@[simp] theorem State.setCop_product : (s.setCop z c).product = s.product := rfl
@[simp] theorem State.setCop_busErrors : (s.setCop z c).busErrors = s.busErrors := rfl
@[simp] theorem State.setCop_inputs : (s.setCop z c).inputs = s.inputs := rfl
@[simp] theorem State.setCop_tick : (s.setCop z c).tick = s.tick := rfl
end setCop

section noteFetch
variable (s : State) (failed : Bool)
@[simp] theorem State.noteFetch_gpr : (s.noteFetch failed).gpr = s.gpr := rfl
@[simp] theorem State.noteFetch_hi : (s.noteFetch failed).hi = s.hi := rfl
@[simp] theorem State.noteFetch_lo : (s.noteFetch failed).lo = s.lo := rfl
@[simp] theorem State.noteFetch_pc : (s.noteFetch failed).pc = s.pc := rfl
@[simp] theorem State.noteFetch_config : (s.noteFetch failed).config = s.config := rfl
@[simp] theorem State.noteFetch_badVAddr : (s.noteFetch failed).badVAddr = s.badVAddr := rfl
@[simp] theorem State.noteFetch_status : (s.noteFetch failed).status = s.status := rfl
@[simp] theorem State.noteFetch_cause : (s.noteFetch failed).cause = s.cause := rfl
@[simp] theorem State.noteFetch_epc : (s.noteFetch failed).epc = s.epc := rfl
@[simp] theorem State.noteFetch_debug : (s.noteFetch failed).debug = if failed then s.debug ||| 0x00000400 else s.debug := rfl
@[simp] theorem State.noteFetch_depc : (s.noteFetch failed).depc = s.depc := rfl
@[simp] theorem State.noteFetch_mem : (s.noteFetch failed).mem = s.mem := rfl
@[simp] theorem State.noteFetch_slot : (s.noteFetch failed).slot = s.slot := rfl
@[simp] theorem State.noteFetch_prev : (s.noteFetch failed).prev = s.prev := rfl
@[simp] theorem State.noteFetch_ssSkip : (s.noteFetch failed).ssSkip = s.ssSkip := rfl
@[simp] theorem State.noteFetch_nmiPending : (s.noteFetch failed).nmiPending = s.nmiPending := rfl
@[simp] theorem State.noteFetch_dbe : (s.noteFetch failed).dbe = s.dbe := rfl
@[simp] theorem State.noteFetch_depcWait : (s.noteFetch failed).depcWait = s.depcWait := rfl
@[simp] theorem State.noteFetch_storeWindow : (s.noteFetch failed).storeWindow = s.storeWindow := rfl
@[simp] theorem State.noteFetch_irqLevel : (s.noteFetch failed).irqLevel = s.irqLevel := rfl
@[simp] theorem State.noteFetch_cpcond : (s.noteFetch failed).cpcond = s.cpcond := rfl
@[simp] theorem State.noteFetch_cpcondPrev : (s.noteFetch failed).cpcondPrev = s.cpcondPrev := rfl
@[simp] theorem State.noteFetch_cop1 : (s.noteFetch failed).cop1 = s.cop1 := rfl
@[simp] theorem State.noteFetch_cop2 : (s.noteFetch failed).cop2 = s.cop2 := rfl
@[simp] theorem State.noteFetch_cop3 : (s.noteFetch failed).cop3 = s.cop3 := rfl
@[simp] theorem State.noteFetch_product : (s.noteFetch failed).product = s.product := rfl
@[simp] theorem State.noteFetch_busErrors : (s.noteFetch failed).busErrors = s.busErrors := rfl
@[simp] theorem State.noteFetch_inputs : (s.noteFetch failed).inputs = s.inputs := rfl
@[simp] theorem State.noteFetch_tick : (s.noteFetch failed).tick = s.tick := rfl
end noteFetch

section age
variable (s : State)
@[simp] theorem State.age_gpr : (s.age).gpr = s.gpr := rfl
@[simp] theorem State.age_hi : (s.age).hi = s.hi := rfl
@[simp] theorem State.age_lo : (s.age).lo = s.lo := rfl
@[simp] theorem State.age_pc : (s.age).pc = s.pc := rfl
@[simp] theorem State.age_config : (s.age).config = s.config := rfl
@[simp] theorem State.age_badVAddr : (s.age).badVAddr = s.badVAddr := rfl
@[simp] theorem State.age_status : (s.age).status = s.status := rfl
@[simp] theorem State.age_cause : (s.age).cause = s.cause := rfl
@[simp] theorem State.age_epc : (s.age).epc = s.epc := rfl
@[simp] theorem State.age_debug : (s.age).debug = s.debug := rfl
@[simp] theorem State.age_depc : (s.age).depc = s.depc := rfl
@[simp] theorem State.age_mem : (s.age).mem = s.mem := rfl
@[simp] theorem State.age_slot : (s.age).slot = s.slot := rfl
@[simp] theorem State.age_prev : (s.age).prev = s.prev := rfl
@[simp] theorem State.age_ssSkip : (s.age).ssSkip = s.ssSkip := rfl
@[simp] theorem State.age_nmiPending : (s.age).nmiPending = s.nmiPending := rfl
@[simp] theorem State.age_dbe : (s.age).dbe = s.dbe := rfl
@[simp] theorem State.age_depcWait : (s.age).depcWait = s.depcWait - 1 := rfl
@[simp] theorem State.age_storeWindow : (s.age).storeWindow = (s.storeWindow.filter fun e => decide (1 < e.2)).map fun e => (e.1, e.2 - 1) := rfl
@[simp] theorem State.age_irqLevel : (s.age).irqLevel = s.irqLevel := rfl
@[simp] theorem State.age_cpcond : (s.age).cpcond = s.cpcond := rfl
@[simp] theorem State.age_cpcondPrev : (s.age).cpcondPrev = s.cpcondPrev := rfl
@[simp] theorem State.age_cop1 : (s.age).cop1 = s.cop1 := rfl
@[simp] theorem State.age_cop2 : (s.age).cop2 = s.cop2 := rfl
@[simp] theorem State.age_cop3 : (s.age).cop3 = s.cop3 := rfl
@[simp] theorem State.age_product : (s.age).product = s.product := rfl
@[simp] theorem State.age_busErrors : (s.age).busErrors = s.busErrors := rfl
@[simp] theorem State.age_inputs : (s.age).inputs = s.inputs := rfl
@[simp] theorem State.age_tick : (s.age).tick = s.tick := rfl
end age

section nextBoundary
variable (s : State)
@[simp] theorem State.nextBoundary_gpr : (s.nextBoundary).gpr = s.gpr := rfl
@[simp] theorem State.nextBoundary_hi : (s.nextBoundary).hi = s.hi := rfl
@[simp] theorem State.nextBoundary_lo : (s.nextBoundary).lo = s.lo := rfl
@[simp] theorem State.nextBoundary_pc : (s.nextBoundary).pc = s.pc := rfl
@[simp] theorem State.nextBoundary_config : (s.nextBoundary).config = s.config := rfl
@[simp] theorem State.nextBoundary_badVAddr : (s.nextBoundary).badVAddr = s.badVAddr := rfl
@[simp] theorem State.nextBoundary_status : (s.nextBoundary).status = s.status := rfl
@[simp] theorem State.nextBoundary_cause : (s.nextBoundary).cause = s.cause := rfl
@[simp] theorem State.nextBoundary_epc : (s.nextBoundary).epc = s.epc := rfl
@[simp] theorem State.nextBoundary_debug : (s.nextBoundary).debug = s.debug := rfl
@[simp] theorem State.nextBoundary_depc : (s.nextBoundary).depc = s.depc := rfl
@[simp] theorem State.nextBoundary_mem : (s.nextBoundary).mem = s.mem := rfl
@[simp] theorem State.nextBoundary_slot : (s.nextBoundary).slot = s.slot := rfl
@[simp] theorem State.nextBoundary_prev : (s.nextBoundary).prev = s.prev := rfl
@[simp] theorem State.nextBoundary_ssSkip : (s.nextBoundary).ssSkip = s.ssSkip := rfl
@[simp] theorem State.nextBoundary_nmiPending : (s.nextBoundary).nmiPending = s.nmiPending := rfl
@[simp] theorem State.nextBoundary_dbe : (s.nextBoundary).dbe = s.dbe := rfl
@[simp] theorem State.nextBoundary_depcWait : (s.nextBoundary).depcWait = s.depcWait := rfl
@[simp] theorem State.nextBoundary_storeWindow : (s.nextBoundary).storeWindow = s.storeWindow := rfl
@[simp] theorem State.nextBoundary_irqLevel : (s.nextBoundary).irqLevel = s.irqLevel := rfl
@[simp] theorem State.nextBoundary_cpcond : (s.nextBoundary).cpcond = s.cpcond := rfl
@[simp] theorem State.nextBoundary_cpcondPrev : (s.nextBoundary).cpcondPrev = s.cpcond := rfl
@[simp] theorem State.nextBoundary_cop1 : (s.nextBoundary).cop1 = s.cop1 := rfl
@[simp] theorem State.nextBoundary_cop2 : (s.nextBoundary).cop2 = s.cop2 := rfl
@[simp] theorem State.nextBoundary_cop3 : (s.nextBoundary).cop3 = s.cop3 := rfl
@[simp] theorem State.nextBoundary_product : (s.nextBoundary).product = s.product := rfl
@[simp] theorem State.nextBoundary_busErrors : (s.nextBoundary).busErrors = s.busErrors := rfl
@[simp] theorem State.nextBoundary_inputs : (s.nextBoundary).inputs = s.inputs.tail := rfl
@[simp] theorem State.nextBoundary_tick : (s.nextBoundary).tick = s.tick + 1 := rfl
end nextBoundary

section afterReset
variable (s : State)
@[simp] theorem State.afterReset_pc : s.afterReset.pc = 0xBFC00000 := by rw [State.afterReset]
@[simp] theorem State.afterReset_config : s.afterReset.config = 0 := by rw [State.afterReset]
@[simp] theorem State.afterReset_mem : s.afterReset.mem = openMemory s.tick := by rw [State.afterReset]
@[simp] theorem State.afterReset_slot : s.afterReset.slot = none := by rw [State.afterReset]
@[simp] theorem State.afterReset_prev : s.afterReset.prev = .other := by rw [State.afterReset]
@[simp] theorem State.afterReset_ssSkip : s.afterReset.ssSkip = false := by rw [State.afterReset]
@[simp] theorem State.afterReset_nmiPending : s.afterReset.nmiPending = false := by rw [State.afterReset]
@[simp] theorem State.afterReset_dbe : s.afterReset.dbe = none := by rw [State.afterReset]
@[simp] theorem State.afterReset_depcWait : s.afterReset.depcWait = 0 := by rw [State.afterReset]
@[simp] theorem State.afterReset_storeWindow : s.afterReset.storeWindow = [] := by rw [State.afterReset]
@[simp] theorem State.afterReset_irqLevel : s.afterReset.irqLevel = s.irqLevel := by rw [State.afterReset]
@[simp] theorem State.afterReset_cpcond : s.afterReset.cpcond = s.cpcond := by rw [State.afterReset]
@[simp] theorem State.afterReset_cpcondPrev : s.afterReset.cpcondPrev = s.cpcondPrev := by rw [State.afterReset]
@[simp] theorem State.afterReset_product : s.afterReset.product = s.product := by rw [State.afterReset]
@[simp] theorem State.afterReset_busErrors : s.afterReset.busErrors = s.busErrors := by rw [State.afterReset]
@[simp] theorem State.afterReset_inputs : s.afterReset.inputs = s.inputs := by rw [State.afterReset]
@[simp] theorem State.afterReset_tick : s.afterReset.tick = s.tick := by rw [State.afterReset]
@[simp] theorem State.afterReset_cop1_present : s.afterReset.cop1.present = s.cop1.present := by
  simp only [State.afterReset, Coprocessor.afterReset]
@[simp] theorem State.afterReset_cop2_present : s.afterReset.cop2.present = s.cop2.present := by
  simp only [State.afterReset, Coprocessor.afterReset]
@[simp] theorem State.afterReset_cop3_present : s.afterReset.cop3.present = s.cop3.present := by
  simp only [State.afterReset, Coprocessor.afterReset]
end afterReset

end Sys2Proof.Machine
end

