-- ==== Sys2Proof/Laws/Ops.lean ====
section
/-! SUPPORT. What each shared operation can do, said once: if it answers a next state, which one and when. -/

namespace Sys2Proof.Machine

/-! ### Registers -/

/-- A write to r0 is discarded (10_state.md R21). -/
@[simp] theorem writeGpr_zero (gpr : Vector Word 32) (v : Word) : writeGpr gpr 0#5 v = gpr := rfl

/-- A general register after a write. -/
theorem writeGpr_get (gpr : Vector Word 32) (r : Reg) (v : Word) (n : Nat) (hn : n < 32) :
    (writeGpr gpr r v)[n] = if r ≠ 0#5 ∧ r.toNat = n then v else gpr[n] := by
  unfold writeGpr
  by_cases hr : r = 0#5
  · simp [hr]
  · simp [hr, Vector.getElem_set]

/-- Register 0 after a write. -/
theorem writeGpr_get_zero (gpr : Vector Word 32) (r : Reg) (v : Word) : (writeGpr gpr r v)[0] = gpr[0] := by
  rw [writeGpr_get]
  split
  · next h =>
    exact absurd (BitVec.eq_of_toNat_eq (by simpa using h.2)) h.1
  · rfl

/-- What an instruction reads where no MFC0 went directly before. -/
theorem State.reg_eq {s : State} {r : Reg} (h : s.prev.loaded r = false) (h0 : s.gpr[0] = 0) :
    s.reg r = s.gpr[r.toNat]'r.isLt := by
  unfold State.reg
  split
  · next hr => subst hr; exact h0.symm
  · simp [h]

/-- r0 always reads 0. -/
@[simp] theorem State.reg_zero (s : State) : s.reg 0#5 = 0 := rfl

/-! ### Guards -/

/-- Outside a delay slot the guard does nothing. -/
theorem outsideSlot_none {f : Fault} {s : State} {body : Result} (h : s.slot = none) : outsideSlot f s body = body := by
  simp [outsideSlot, h]

/-- The guard lets a next state through only outside a delay slot. -/
theorem outsideSlot_next {f : Fault} {s t : State} {body : Result} (h : outsideSlot f s body = .next t) :
    s.slot = none ∧ body = .next t := by
  unfold outsideSlot at h
  split at h
  · cases h
  · next hs => exact ⟨hs, h⟩

/-- What the entry of an exception in an instruction can be. -/
theorem raise_next {e : Exn} {s t : State} (h : raise e s = .next t) : s.debugMode = false ∧ t = s.take e := by
  unfold raise at h
  split at h
  · cases h
  · next hd => exact ⟨by simpa using hd, by cases h; rfl⟩

/-- Outside debug mode an instruction's exception is taken. -/
theorem raise_eq {e : Exn} {s : State} (h : s.debugMode = false) : raise e s = .next (s.take e) := by
  simp [raise, h]

/-- A usable coprocessor's instruction goes on; the other raises CpU (44_coproc_special32.md R290). -/
theorem ifUsable_next {z : BitVec 2} {s t : State} {body : Result} (h : ifUsable z s body = .next t) :
    (s.usable z = true ∧ body = .next t) ∨ (s.usable z = false ∧ s.debugMode = false ∧ t = s.take (.cpu z)) := by
  unfold ifUsable at h
  split at h
  · next hu => exact .inl ⟨hu, h⟩
  · next hu =>
    obtain ⟨hd, rfl⟩ := raise_next h
    exact .inr ⟨by simpa using hu, hd, rfl⟩

/-- The check of coprocessors 1 to 3, with their presence (R291). -/
theorem ifCop_next {z : BitVec 2} {s t : State} {body : Result} (h : ifCop z s body = .next t) :
    (s.usable z = true ∧ (s.cop z).present = true ∧ body = .next t) ∨
    (s.usable z = false ∧ s.debugMode = false ∧ t = s.take (.cpu z)) := by
  obtain ⟨hu, hb⟩ | hr := ifUsable_next h
  · split at hb
    · next hp => exact .inl ⟨hu, hp, hb⟩
    · cases hb
  · exact .inr hr

/-- An extended instruction runs outside a delay slot (49_special_extend16.md R425(e)). -/
theorem extended_next {s t : State} {body : Result} (h : extended s body = .next t) : s.slot = none ∧ body = .next t :=
  outsideSlot_next h

/-! ### Loads and stores -/

/-- All a load can do. -/
theorem load_next {len : Word} {dest : Reg} {ea : Word} {align : Nat} {vas : List Word} {value : Word} {s t : State}
    (h : load len dest ea align vas value s = .next t) :
    (s.access .load ea align vas = .granted ∧ t = (s.setReg dest value).finishAs .access len) ∨
    (s.access .load ea align vas = .busError ∧
      t = ((s.setReg dest (Config.freeWord s.tick .loadBusError)).dataBusError (.load dest)).finishAs .access len) ∨
    (s.access .load ea align vas = .addressError ∧ s.debugMode = false ∧ t = s.take (.adel ea)) := by
  unfold load at h
  split at h
  · cases h
  · split at h
    · next ha => obtain ⟨hd, rfl⟩ := raise_next h; exact .inr (.inr ⟨ha, hd, rfl⟩)
    · cases h
    · next ha => cases h; exact .inr (.inl ⟨ha, rfl⟩)
    · next ha => cases h; exact .inl ⟨ha, rfl⟩

/-- A load whose access is granted completes. -/
theorem load_granted {len : Word} {dest : Reg} {ea : Word} {align : Nat} {vas : List Word} {value : Word} {s : State}
    (hp : s.prev.changedMode = false) (ha : s.access .load ea align vas = .granted) :
    load len dest ea align vas value s = .next ((s.setReg dest value).finishAs .access len) := by
  simp [load, hp, ha]

/-- All a store can do. -/
theorem store_next {len : Word} {ea : Word} {align : Nat} {cells : List (Word × Byte)} {s t : State}
    (h : store len ea align cells s = .next t) :
    (s.access .store ea align (cells.map (·.1)) = .granted ∧ t = (s.storeCells cells).finishAs .access len) ∨
    (s.access .store ea align (cells.map (·.1)) = .busError ∧
      (t = (s.spoilCells cells).finishAs .access len ∨
        t = ((s.spoilCells cells).dataBusError .store).finishAs .access len)) ∨
    (s.access .store ea align (cells.map (·.1)) = .addressError ∧ s.debugMode = false ∧ t = s.take (.ades ea)) := by
  unfold store at h
  split at h
  · cases h
  · split at h
    · next ha => obtain ⟨hd, rfl⟩ := raise_next h; exact .inr (.inr ⟨ha, hd, rfl⟩)
    · cases h
    · next ha =>
      split at h
      · cases h; exact .inr (.inl ⟨ha, .inl rfl⟩)
      · cases h; exact .inr (.inl ⟨ha, .inr rfl⟩)
    · next ha => cases h; exact .inl ⟨ha, rfl⟩

/-- The fetch window after writes to pairwise different addresses: the bytes they changed, and what was in it before. -/
theorem mem_windowAfter {s : State} {cells : List Host.Cell} {a n : Nat} (h : Memory.wf s.mem = true)
    (hb : ∀ c ∈ cells, c.1 < 2 ^ 32) (hd : (cells.map (·.1)).Nodup) :
    (a, n) ∈ windowAfter s cells ↔
      (n = Config.ifetchWindow ∧ memRead (memWriteAll s.mem cells) a ≠ memRead s.mem a) ∨ (a, n) ∈ s.storeWindow := by
  simp only [windowAfter, List.mem_append, List.mem_map, List.mem_filter, bne_iff_ne, Prod.mk.injEq]
  refine or_congr ⟨?_, ?_⟩ Iff.rfl
  · rintro ⟨c, ⟨hc, hne⟩, rfl, rfl⟩
    exact ⟨rfl, by rw [memRead_memWriteAll_mem h hb hd hc]; exact hne.symm⟩
  · rintro ⟨rfl, hne⟩
    by_cases hc : ∃ c ∈ cells, a = c.1
    · obtain ⟨c, hc, rfl⟩ := hc
      exact ⟨c, ⟨hc, by rw [memRead_memWriteAll_mem h hb hd hc] at hne; exact hne.symm⟩, rfl, rfl⟩
    · exact absurd (memRead_memWriteAll_ne fun c hm ha => hc ⟨c, hm, ha⟩) hne

/-- One instruction later a byte is one step nearer to leaving the fetch window. -/
theorem mem_age_storeWindow {s : State} {a n : Nat} : (a, n) ∈ s.age.storeWindow ↔ 0 < n ∧ (a, n + 1) ∈ s.storeWindow := by
  simp only [State.age, List.mem_map, List.mem_filter, decide_eq_true_eq, Prod.mk.injEq, Prod.exists]
  constructor
  · rintro ⟨b, k, ⟨hm, hk⟩, rfl, rfl⟩
    exact ⟨by omega, by rwa [Nat.sub_add_cancel (by omega)]⟩
  · rintro ⟨hn, hm⟩
    exact ⟨a, n + 1, ⟨hm, by omega⟩, rfl, rfl⟩

/-- A store whose access is granted completes. -/
theorem store_granted {len : Word} {ea : Word} {align : Nat} {cells : List (Word × Byte)} {s : State}
    (hp : s.prev.changedMode = false) (ha : s.access .store ea align (cells.map (·.1)) = .granted) :
    store len ea align cells s = .next ((s.storeCells cells).finishAs .access len) := by
  simp [store, hp, ha]

/-! ### The Reset exception -/

/-- Memory after a RESET event is in canonical form. -/
theorem wf_afterReset (s : State) : Memory.wf s.afterReset.mem = true := by
  rw [State.afterReset_mem]
  exact wf_openMemory s.tick

/-! ### Special registers -/

/-- All an MFC0 can do. -/
theorem execMfc0_next {rt rd : Reg} {s t : State} (h : execMfc0 rt rd s = .next t) :
    (s.usable 0#2 = true ∧ listedCp0 rd = true ∧ t = (s.setReg rt (s.cp0Read rd)).finishAs (.mfc0 rt rd) 4) ∨
    (s.usable 0#2 = false ∧ s.debugMode = false ∧ t = s.take (.cpu 0#2)) := by
  obtain ⟨hu, hb⟩ | hr := ifUsable_next h
  · split at hb
    · next hl => cases hb; exact .inl ⟨hu, hl, rfl⟩
    · cases hb
  · exact .inr hr

/-- All an MTC0 can do that passed the usability check. -/
theorem mtc0Effect_next {rd : Reg} {v : Word} {s t : State} (h : mtc0Effect rd v s = .next t) :
    listedCp0 rd = true ∧ ¬(rd = 12#5 ∧ bit v 25 = true) ∧
    ¬(rd = 3#5 ∧ bit (s.cp0Write rd v).config 8 = true ∧ bit (s.cp0Write rd v).config 9 = true) ∧
    t = (s.cp0Write rd v).finishAs (.mtc0 rd (bit s.status 1 != bit (s.cp0Write rd v).status 1)) 4 := by
  unfold mtc0Effect at h
  simp only at h
  split at h
  · cases h
  · next hl =>
    split at h
    · cases h
    · next h12 =>
      split at h
      · cases h
      · next h3 =>
        split at h
        · cases h
        · cases h
          refine ⟨by simpa using hl, ?_, ?_, rfl⟩
          · rintro ⟨rfl, hb⟩; simp [hb] at h12
          · rintro ⟨rfl, hb, hb'⟩; simp [hb, hb'] at h3

/-- DIV changes nothing but HI and LO. -/
theorem divSigned_eq (a b : Word) (s : State) :
    s.divSigned a b = { s with hi := (s.divSigned a b).hi, lo := (s.divSigned a b).lo } := by
  unfold State.divSigned; split <;> rfl

/-- DIVU changes nothing but HI and LO. -/
theorem divUnsigned_eq (a b : Word) (s : State) :
    s.divUnsigned a b = { s with hi := (s.divUnsigned a b).hi, lo := (s.divUnsigned a b).lo } := by
  unfold State.divUnsigned; split <;> rfl

/-! ### The boundary -/

/-- All a taken interrupt can be. -/
theorem takeInterrupt_next {e : Exn} {f : Fetched} {s t : State} (h : takeInterrupt e f s = .next t) :
    t = s.takeCoincident .breakpoint e ∨ t = s.take e ∨
    (runFetched f s = .next t ∧ (t.prev = .entry ∨ t.dbe.isSome = true)) := by
  unfold takeInterrupt at h
  simp only at h
  split at h
  · cases h; exact .inl rfl
  · split at h
    · next hr =>
      rw [h] at hr
      exact .inr (.inr ⟨h, by simpa [takesException, meetsBusError] using hr⟩)
    · cases h; exact .inr (.inl rfl)

/-- All a boundary without a debug exception can do. -/
theorem dispatchNext_next {s t : State} (h : dispatchNext s = .next t) :
    runFetched s.fetch s = .next t ∨
    (∃ d, s.dbeDue = some d ∧ t = takeDataBusError d s) ∨
    (s.nmiDue = true ∧ (t = s.takeCoincident .breakpoint .nmi ∨ t = s.take .nmi)) ∨
    (∃ e, s.acceptedInterrupt = some e ∧ (t = s.takeCoincident .breakpoint e ∨ t = s.take e)) := by
  unfold dispatchNext at h
  simp only at h
  split at h
  · exact .inl h
  · split at h
    · next d hd => cases h; exact .inr (.inl ⟨d, hd, rfl⟩)
    · split at h
      · next hn =>
        have hn : s.nmiDue = true := by simp only [Bool.and_eq_true] at hn; exact hn.1
        split at h <;> cases h
        · exact .inr (.inr (.inl ⟨hn, .inl rfl⟩))
        · exact .inr (.inr (.inl ⟨hn, .inr rfl⟩))
      · split at h
        · next e he =>
          rcases takeInterrupt_next h with h | h | h
          · exact .inr (.inr (.inr ⟨e, he, .inl h⟩))
          · exact .inr (.inr (.inr ⟨e, he, .inr h⟩))
          · exact .inl h.1
        · exact .inl h

/-- A data bus error is due only outside debug mode, and is then the pending one. -/
theorem State.dbeDue_some {s : State} {d : DataBusError} (h : s.dbeDue = some d) :
    s.debugMode = false ∧ s.dbe = some d := by
  unfold State.dbeDue at h
  split at h
  · cases h
  · next hd => exact ⟨by simpa using hd, h⟩

/-- All a single step can be. -/
theorem takeSingleStep_next {s t : State} (h : takeSingleStep s = .next t) :
    t = s.takeDebug .singleStep false false ∨ ∃ va, t = s.takeCoincident .singleStep (.adel va) := by
  unfold takeSingleStep at h
  split at h <;> cases h
  · exact .inr ⟨_, rfl⟩
  · exact .inl rfl

/-- All the boundary of a running core can do. -/
theorem runBoundary_next {s t : State} (h : runBoundary s = .next t) :
    (s.singleStepDue = true ∧ takeSingleStep s = .next t) ∨ (s.singleStepDue = false ∧ dispatchNext s = .next t) := by
  unfold runBoundary at h
  split at h
  · next hs => exact .inl ⟨hs, h⟩
  · next hs => exact .inr ⟨by simpa using hs, h⟩

/-- All a boundary can do. -/
theorem boundary_next {s t : State} (h : boundary s = .next t) :
    (∃ k, s.slot = some k ∧ k.nullify = true ∧ t = { s with pc := k.target, slot := none }) ∨
    (s.stopped = true ∧ s.released = false ∧ t = s) ∨
    (s.stopped = true ∧ s.released = true ∧ runBoundary { s with config := wake s.config } = .next t) ∨
    (s.stopped = false ∧ runBoundary s = .next t) := by
  unfold boundary at h
  split at h
  · next k hk =>
    cases h
    rw [Option.filter_eq_some_iff] at hk
    exact .inl ⟨k, hk.1, hk.2, rfl⟩
  · split at h
    · next hs =>
      split at h
      · next hr => exact .inr (.inr (.inl ⟨hs, hr, h⟩))
      · next hr => cases h; exact .inr (.inl ⟨hs, by simpa using hr, rfl⟩)
    · next hs => exact .inr (.inr (.inr ⟨by simpa using hs, h⟩))

end Sys2Proof.Machine
end

