-- ==== Sys2Proof/Tests/Slice0.lean ====
section
/-! SUPPORT. Tests: the checks of WellFormed, a word for every constructor as the columns of the opcode table place its fields,
one step of every instruction with the values of 95_test_vectors.md (or computed by hand from the rule of the instruction),
interrupts and reset, and a witness for the hypotheses of every statement that has any. -/

namespace Sys2Proof.Tests

open Sys2Proof.Machine Sys2Proof.Spec

/-! ### Well-formed instructions -/

/-- EXTEND before an instruction that can be extended is that extended instruction, not a misused EXTEND. -/
theorem test_extend_before_extensible_is_ill_formed : (Instr.extend 0x222#11 0x4B14#16).wf = false := by decide

theorem test_extend_before_addu_is_well_formed : (Instr.extend 0#11 0xE271#16).wf = true := by decide

/-! ### Decoding -/

theorem test_decode_loads_stores32 :
    decode32 0x81098A53 = .instr (.lb 8#5 9#5 0x8A53#16) ∧
    decode32 0x91098A53 = .instr (.lbu 8#5 9#5 0x8A53#16) ∧
    decode32 0x85098A53 = .instr (.lh 8#5 9#5 0x8A53#16) ∧
    decode32 0x95098A53 = .instr (.lhu 8#5 9#5 0x8A53#16) ∧
    decode32 0x89098A53 = .instr (.lwl 8#5 9#5 0x8A53#16) ∧
    decode32 0x99098A53 = .instr (.lwr 8#5 9#5 0x8A53#16) ∧
    decode32 0x8D098A53 = .instr (.lw 8#5 9#5 0x8A53#16) ∧
    decode32 0xA1098A53 = .instr (.sb 8#5 9#5 0x8A53#16) ∧
    decode32 0xA5098A53 = .instr (.sh 8#5 9#5 0x8A53#16) ∧
    decode32 0xA9098A53 = .instr (.swl 8#5 9#5 0x8A53#16) ∧
    decode32 0xB9098A53 = .instr (.swr 8#5 9#5 0x8A53#16) ∧
    decode32 0xAD098A53 = .instr (.sw 8#5 9#5 0x8A53#16) ∧
    decode32 0x0000000F = .instr .sync := by decide

theorem test_decode_alu32 :
    decode32 0x0109D020 = .instr (.add 8#5 9#5 26#5) ∧
    decode32 0x0109D021 = .instr (.addu 8#5 9#5 26#5) ∧
    decode32 0x0109D022 = .instr (.sub 8#5 9#5 26#5) ∧
    decode32 0x0109D023 = .instr (.subu 8#5 9#5 26#5) ∧
    decode32 0x0109D024 = .instr (.and 8#5 9#5 26#5) ∧
    decode32 0x0109D025 = .instr (.or 8#5 9#5 26#5) ∧
    decode32 0x0109D026 = .instr (.xor 8#5 9#5 26#5) ∧
    decode32 0x0109D027 = .instr (.nor 8#5 9#5 26#5) ∧
    decode32 0x0109D02A = .instr (.slt 8#5 9#5 26#5) ∧
    decode32 0x0109D02B = .instr (.sltu 8#5 9#5 26#5) ∧
    decode32 0x21098A53 = .instr (.addi 8#5 9#5 0x8A53#16) ∧
    decode32 0x25098A53 = .instr (.addiu 8#5 9#5 0x8A53#16) ∧
    decode32 0x29098A53 = .instr (.slti 8#5 9#5 0x8A53#16) ∧
    decode32 0x2D098A53 = .instr (.sltiu 8#5 9#5 0x8A53#16) ∧
    decode32 0x31098A53 = .instr (.andi 8#5 9#5 0x8A53#16) ∧
    decode32 0x35098A53 = .instr (.ori 8#5 9#5 0x8A53#16) ∧
    decode32 0x39098A53 = .instr (.xori 8#5 9#5 0x8A53#16) ∧
    decode32 0x3C088A53 = .instr (.lui 8#5 0x8A53#16) := by decide

theorem test_decode_shift_muldiv32 :
    decode32 0x00084E80 = .instr (.sll 8#5 9#5 26#5) ∧
    decode32 0x00084E82 = .instr (.srl 8#5 9#5 26#5) ∧
    decode32 0x00084E83 = .instr (.sra 8#5 9#5 26#5) ∧
    decode32 0x0109D004 = .instr (.sllv 8#5 9#5 26#5) ∧
    decode32 0x0109D006 = .instr (.srlv 8#5 9#5 26#5) ∧
    decode32 0x0109D007 = .instr (.srav 8#5 9#5 26#5) ∧
    decode32 0x0109D018 = .instr (.mult 8#5 9#5 26#5) ∧
    decode32 0x0109D019 = .instr (.multu 8#5 9#5 26#5) ∧
    decode32 0x0109001A = .instr (.div 8#5 9#5) ∧
    decode32 0x0109001B = .instr (.divu 8#5 9#5) ∧
    decode32 0x7109D000 = .instr (.madd 8#5 9#5 26#5) ∧
    decode32 0x7109D001 = .instr (.maddu 8#5 9#5 26#5) ∧
    decode32 0x00004010 = .instr (.mfhi 8#5) ∧
    decode32 0x00004012 = .instr (.mflo 8#5) ∧
    decode32 0x01000011 = .instr (.mthi 8#5) ∧
    decode32 0x01000013 = .instr (.mtlo 8#5) := by decide

theorem test_decode_jump_branch32 :
    decode32 0x0A48D15A = .instr (.j 0x248D15A#26) ∧
    decode32 0x0E48D15A = .instr (.jal 0x248D15A#26) ∧
    decode32 0x7648D15A = .instr (.jalx 0x248D15A#26) ∧
    decode32 0x01000008 = .instr (.jr 8#5) ∧
    decode32 0x01004809 = .instr (.jalr 8#5 9#5) ∧
    decode32 0x11098A53 = .instr (.beq 8#5 9#5 0x8A53#16) ∧
    decode32 0x15098A53 = .instr (.bne 8#5 9#5 0x8A53#16) ∧
    decode32 0x19008A53 = .instr (.blez 8#5 0x8A53#16) ∧
    decode32 0x1D008A53 = .instr (.bgtz 8#5 0x8A53#16) ∧
    decode32 0x05008A53 = .instr (.bltz 8#5 0x8A53#16) ∧
    decode32 0x05018A53 = .instr (.bgez 8#5 0x8A53#16) ∧
    decode32 0x05108A53 = .instr (.bltzal 8#5 0x8A53#16) ∧
    decode32 0x05118A53 = .instr (.bgezal 8#5 0x8A53#16) ∧
    decode32 0x05028A53 = .instr (.bltzl 8#5 0x8A53#16) ∧
    decode32 0x05038A53 = .instr (.bgezl 8#5 0x8A53#16) ∧
    decode32 0x05128A53 = .instr (.bltzall 8#5 0x8A53#16) ∧
    decode32 0x05138A53 = .instr (.bgezall 8#5 0x8A53#16) ∧
    decode32 0x51098A53 = .instr (.beql 8#5 9#5 0x8A53#16) ∧
    decode32 0x55098A53 = .instr (.bnel 8#5 9#5 0x8A53#16) ∧
    decode32 0x59008A53 = .instr (.blezl 8#5 0x8A53#16) ∧
    decode32 0x5D008A53 = .instr (.bgtzl 8#5 0x8A53#16) := by decide

theorem test_decode_coproc_special32_1 :
    decode32 0x40084800 = .instr (.mfc0 8#5 9#5) ∧
    decode32 0x40884800 = .instr (.mtc0 8#5 9#5) ∧
    decode32 0x40484800 = .instr (.cfc0 8#5 9#5) ∧
    decode32 0x40C84800 = .instr (.ctc0 8#5 9#5) ∧
    decode32 0x44084800 = .instr (.mfc1 8#5 9#5) ∧
    decode32 0x44884800 = .instr (.mtc1 8#5 9#5) ∧
    decode32 0x44484800 = .instr (.cfc1 8#5 9#5) ∧
    decode32 0x44C84800 = .instr (.ctc1 8#5 9#5) ∧
    decode32 0x47234567 = .instr (.cop1 0x1234567#25) ∧
    decode32 0x48084800 = .instr (.mfc2 8#5 9#5) ∧
    decode32 0x48884800 = .instr (.mtc2 8#5 9#5) ∧
    decode32 0x48484800 = .instr (.cfc2 8#5 9#5) ∧
    decode32 0x48C84800 = .instr (.ctc2 8#5 9#5) ∧
    decode32 0x4B234567 = .instr (.cop2 0x1234567#25) ∧
    decode32 0x4C084800 = .instr (.mfc3 8#5 9#5) ∧
    decode32 0x4C884800 = .instr (.mtc3 8#5 9#5) ∧
    decode32 0x4C484800 = .instr (.cfc3 8#5 9#5) ∧
    decode32 0x4CC84800 = .instr (.ctc3 8#5 9#5) ∧
    decode32 0x4F234567 = .instr (.cop3 0x1234567#25) ∧
    decode32 0x41008A53 = .instr (.bc0f 0x8A53#16) ∧
    decode32 0x41018A53 = .instr (.bc0t 0x8A53#16) ∧
    decode32 0x41028A53 = .instr (.bc0fl 0x8A53#16) ∧
    decode32 0x41038A53 = .instr (.bc0tl 0x8A53#16) ∧
    decode32 0x45008A53 = .instr (.bc1f 0x8A53#16) := by decide

theorem test_decode_coproc_special32_2 :
    decode32 0x45018A53 = .instr (.bc1t 0x8A53#16) ∧
    decode32 0x45028A53 = .instr (.bc1fl 0x8A53#16) ∧
    decode32 0x45038A53 = .instr (.bc1tl 0x8A53#16) ∧
    decode32 0x49008A53 = .instr (.bc2f 0x8A53#16) ∧
    decode32 0x49018A53 = .instr (.bc2t 0x8A53#16) ∧
    decode32 0x49028A53 = .instr (.bc2fl 0x8A53#16) ∧
    decode32 0x49038A53 = .instr (.bc2tl 0x8A53#16) ∧
    decode32 0x4D008A53 = .instr (.bc3f 0x8A53#16) ∧
    decode32 0x4D018A53 = .instr (.bc3t 0x8A53#16) ∧
    decode32 0x4D028A53 = .instr (.bc3fl 0x8A53#16) ∧
    decode32 0x4D038A53 = .instr (.bc3tl 0x8A53#16) ∧
    decode32 0x42000010 = .instr .rfe ∧
    decode32 0x4200001F = .instr .deret ∧
    decode32 0x42000001 = .instr .tlbr ∧
    decode32 0x42000002 = .instr .tlbwi ∧
    decode32 0x42000006 = .instr .tlbwr ∧
    decode32 0x42000008 = .instr .tlbp ∧
    decode32 0xBD098A53 = .instr (.cache 8#5 9#5 0x8A53#16) ∧
    decode32 0xC9098A53 = .instr (.lwcz 2#2 8#5 9#5 0x8A53#16) ∧
    decode32 0xE9098A53 = .instr (.swcz 2#2 8#5 9#5 0x8A53#16) ∧
    decode32 0x0048D14C = .instr (.syscall 0x12345#20) ∧
    decode32 0x0048D14D = .instr (.brk 0x12345#20) ∧
    decode32 0x0048D14E = .instr (.sdbbp 0x12345#20) := by decide

theorem test_decode_loads_stores16 :
    decode16 0x83A8 = .instr (.lb16 3#3 5#3 8#5) ∧
    decode16 0xA3A8 = .instr (.lbu16 3#3 5#3 8#5) ∧
    decode16 0x8BA8 = .instr (.lh16 3#3 5#3 8#5) ∧
    decode16 0xABA8 = .instr (.lhu16 3#3 5#3 8#5) ∧
    decode16 0x9BA8 = .instr (.lw16 3#3 5#3 8#5) ∧
    decode16 0xB3A5 = .instr (.lwpc 3#3 0xA5#8) ∧
    decode16 0x93A5 = .instr (.lwsp 3#3 0xA5#8) ∧
    decode16 0xC3A8 = .instr (.sb16 3#3 5#3 8#5) ∧
    decode16 0xCBA8 = .instr (.sh16 3#3 5#3 8#5) ∧
    decode16 0xDBA8 = .instr (.sw16 3#3 5#3 8#5) ∧
    decode16 0xD3A5 = .instr (.swsp 3#3 0xA5#8) ∧
    decode16 0x62A5 = .instr (.swrasp 0xA5#8) := by decide

theorem test_decode_alu16 :
    decode16 0x43AA = .instr (.addiu3 3#3 5#3 10#4) ∧
    decode16 0x0BA5 = .instr (.addiupc 3#3 0xA5#8) ∧
    decode16 0x4BA5 = .instr (.addiu8 3#3 0xA5#8) ∧
    decode16 0x03A5 = .instr (.addiusp 3#3 0xA5#8) ∧
    decode16 0x63A5 = .instr (.adjsp 0xA5#8) ∧
    decode16 0xE3A9 = .instr (.addu16 3#3 5#3 2#3) ∧
    decode16 0xE3AB = .instr (.subu16 3#3 5#3 2#3) ∧
    decode16 0xEBAB = .instr (.neg16 3#3 5#3) ∧
    decode16 0xEBA2 = .instr (.slt16 3#3 5#3) ∧
    decode16 0xEBA3 = .instr (.sltu16 3#3 5#3) ∧
    decode16 0x53A5 = .instr (.slti16 3#3 0xA5#8) ∧
    decode16 0x5BA5 = .instr (.sltiu16 3#3 0xA5#8) ∧
    decode16 0x6768 = .instr (.movr32 3#3 8#5) ∧
    decode16 0x650B = .instr (.mov32r 8#5 3#3) ∧
    decode16 0xEBAA = .instr (.cmp16 3#3 5#3) ∧
    decode16 0x73A5 = .instr (.cmpi16 3#3 0xA5#8) ∧
    decode16 0xEBAC = .instr (.and16 3#3 5#3) ∧
    decode16 0xEBAD = .instr (.or16 3#3 5#3) ∧
    decode16 0xEBAE = .instr (.xor16 3#3 5#3) ∧
    decode16 0xEBAF = .instr (.not16 3#3 5#3) ∧
    decode16 0x6BA5 = .instr (.li16 3#3 0xA5#8) := by decide

theorem test_decode_shift_muldiv16 :
    decode16 0x33A8 = .instr (.sll16 3#3 5#3 2#3) ∧
    decode16 0x33AA = .instr (.srl16 3#3 5#3 2#3) ∧
    decode16 0x33AB = .instr (.sra16 3#3 5#3 2#3) ∧
    decode16 0xEBA4 = .instr (.sllv16 3#3 5#3) ∧
    decode16 0xEBA6 = .instr (.srlv16 3#3 5#3) ∧
    decode16 0xEBA7 = .instr (.srav16 3#3 5#3) ∧
    decode16 0xEBB8 = .instr (.mult16 3#3 5#3) ∧
    decode16 0xEBB9 = .instr (.multu16 3#3 5#3) ∧
    decode16 0xEBBA = .instr (.div16 3#3 5#3) ∧
    decode16 0xEBBB = .instr (.divu16 3#3 5#3) ∧
    decode16 0xEB10 = .instr (.mfhi16 3#3) ∧
    decode16 0xEB12 = .instr (.mflo16 3#3) := by decide

theorem test_decode_jump_branch16 :
    decodePair 0x1912 0xD15A = .instr (.jal16 0x248D15A#26) ∧
    decodePair 0x1D12 0xD15A = .instr (.jalx16 0x248D15A#26) ∧
    decode16 0xEB00 = .instr (.jr16 3#3) ∧
    decode16 0xE820 = .instr .jrra ∧
    decode16 0xEB40 = .instr (.jalr16 3#3) ∧
    decode16 0x23A5 = .instr (.beqz 3#3 0xA5#8) ∧
    decode16 0x2BA5 = .instr (.bnez 3#3 0xA5#8) ∧
    decode16 0x60A5 = .instr (.bteqz 0xA5#8) ∧
    decode16 0x61A5 = .instr (.btnez 0xA5#8) ∧
    decode16 0x15A3 = .instr (.b 0x5A3#11) := by decide

theorem test_decode_special16 :
    decode16 0xECA5 = .instr (.brk16 37#6) ∧
    decode16 0xECA1 = .instr (.sdbbp16 37#6) ∧
    decodePair 0xF000 0xE271 = .instr (.extend 0#11 0xE271#16) := by decide

theorem test_decode_extended_1 :
    decodePair 0xF251 0x83B3 = .instr (.lbE 3#3 5#3 0x8A53#16) ∧
    decodePair 0xF251 0xA3B3 = .instr (.lbuE 3#3 5#3 0x8A53#16) ∧
    decodePair 0xF251 0x8BB3 = .instr (.lhE 3#3 5#3 0x8A53#16) ∧
    decodePair 0xF251 0xABB3 = .instr (.lhuE 3#3 5#3 0x8A53#16) ∧
    decodePair 0xF251 0x9BB3 = .instr (.lwE 3#3 5#3 0x8A53#16) ∧
    decodePair 0xF251 0xB313 = .instr (.lwpcE 3#3 0x8A53#16) ∧
    decodePair 0xF251 0x9313 = .instr (.lwspE 3#3 0x8A53#16) ∧
    decodePair 0xF251 0xC3B3 = .instr (.sbE 3#3 5#3 0x8A53#16) ∧
    decodePair 0xF251 0xCBB3 = .instr (.shE 3#3 5#3 0x8A53#16) ∧
    decodePair 0xF251 0xDBB3 = .instr (.swE 3#3 5#3 0x8A53#16) ∧
    decodePair 0xF251 0xD313 = .instr (.swspE 3#3 0x8A53#16) ∧
    decodePair 0xF251 0x6213 = .instr (.swraspE 0x8A53#16) ∧
    decodePair 0xF25B 0x43A3 = .instr (.addiu3E 3#3 5#3 0x5A53#15) ∧
    decodePair 0xF251 0x0B13 = .instr (.addiupcE 3#3 0x8A53#16) ∧
    decodePair 0xF251 0x4B13 = .instr (.addiu8E 3#3 0x8A53#16) ∧
    decodePair 0xF251 0x0313 = .instr (.addiuspE 3#3 0x8A53#16) ∧
    decodePair 0xF251 0x6313 = .instr (.adjspE 0x8A53#16) ∧
    decodePair 0xF251 0x5313 = .instr (.sltiE 3#3 0x8A53#16) ∧
    decodePair 0xF251 0x5B13 = .instr (.sltiuE 3#3 0x8A53#16) ∧
    decodePair 0xF251 0x7313 = .instr (.cmpiE 3#3 0x8A53#16) ∧
    decodePair 0xF251 0x6B13 = .instr (.liE 3#3 0x8A53#16) ∧
    decodePair 0xF200 0x33A0 = .instr (.sllE 3#3 5#3 8#5) ∧
    decodePair 0xF200 0x33A2 = .instr (.srlE 3#3 5#3 8#5) ∧
    decodePair 0xF200 0x33A3 = .instr (.sraE 3#3 5#3 8#5) := by decide

theorem test_decode_extended_2 :
    decodePair 0xF251 0x2313 = .instr (.beqzE 3#3 0x8A53#16) ∧
    decodePair 0xF251 0x2B13 = .instr (.bnezE 3#3 0x8A53#16) ∧
    decodePair 0xF251 0x6013 = .instr (.bteqzE 0x8A53#16) ∧
    decodePair 0xF251 0x6113 = .instr (.btnezE 0x8A53#16) ∧
    decodePair 0xF251 0x1013 = .instr (.bE 0x8A53#16) := by decide

/-! ### One step of every instruction -/

/-- The machine after reset at 0x2000, in kernel mode, with general registers and bytes at virtual addresses given. -/
def start (regs : List (Nat × Word)) (bytes : List (Word × Byte)) : State :=
  { State.reset with
    pc := 0x2000
    gpr := regs.foldl (fun g p => g.setIfInBounds p.1 p.2) State.reset.gpr
    mem := memWriteAll [] (physicalCells bytes) }

/-- The step of an instruction placed at the program counter. -/
def run (c : Code) (s : State) : Result :=
  step { s with
    pc := s.instrAddr ||| (if c.isa16 then 1 else 0)
    mem := memWriteAll s.mem (physicalCells (cellsFrom s.instrAddr (c.bytes s.product.bigEndian))) }

/-- What a next state shows. -/
def see (r : Result) (f : State → List Word) : List Word :=
  match r with
  | .next t => f t
  | _ => []

/-- Where the pending jump goes. -/
def target (t : State) : Word := (t.slot.map (·.target)).getD 0

/-- Is the delay slot nullified? -/
def nullified (t : State) : Word := if (t.slot.map (·.nullify)).getD false then 1 else 0

/-- A coprocessor of the product. -/
def unit : Coprocessor := { present := true, data := .replicate 32 5, ctrl := .replicate 32 6 }

/-- Does the outcome refuse with this reason? -/
def refuses (r : Result) (why : Refusal) : Bool :=
  match r with
  | .refused x => x == why
  | _ => false

/-- Does the outcome fault with this reason? -/
def faults (r : Result) (why : Fault) : Bool :=
  match r with
  | .fault x => x == why
  | _ => false

theorem test_lb : see (run (.word 0x81090004) (start [(8, 0x400)] [(0x404, 0xF2)]))
    (fun t => [t.gpr[9], t.pc]) = [0xFFFFFFF2, 0x2004] := by decide
theorem test_lbu : see (run (.word 0x91090004) (start [(8, 0x400)] [(0x404, 0xF2)])) (fun t => [t.gpr[9]]) = [0xF2] := by decide
theorem test_lh : see (run (.word 0x85090004) (start [(8, 0x400)] [(0x404, 0xFF), (0x405, 2)]))
    (fun t => [t.gpr[9]]) = [0xFFFFFF02] := by decide
theorem test_lh_little : see (run (.word 0x85090004) { start [(8, 0x400)] [(0x404, 0xFF), (0x405, 2)] with product := ⟨false, false, 0, []⟩ })
    (fun t => [t.gpr[9]]) = [0x2FF] := by decide
theorem test_lhu : see (run (.word 0x95090004) (start [(8, 0x400)] [(0x404, 0xFF), (0x405, 2)]))
    (fun t => [t.gpr[9]]) = [0xFF02] := by decide
theorem test_lwl : see (run (.word 0x89090002) (start [(8, 0x400), (9, 0xAABBCCDD)] [(0x402, 1), (0x403, 0x23), (0x404, 0x45), (0x405, 0x67)]))
    (fun t => [t.gpr[9]]) = [0x123CCDD] := by decide
theorem test_lwl_little : see (run (.word 0x89090005) { start [(8, 0x400), (9, 0xAABBCCDD)] [(0x402, 1), (0x403, 0x23), (0x404, 0x45), (0x405, 0x67)] with product := ⟨false, false, 0, []⟩ })
    (fun t => [t.gpr[9]]) = [0x6745CCDD] := by decide
theorem test_lwr : see (run (.word 0x99090005) (start [(8, 0x400), (9, 0x123CCDD)] [(0x402, 1), (0x403, 0x23), (0x404, 0x45), (0x405, 0x67)]))
    (fun t => [t.gpr[9]]) = [0x1234567] := by decide
theorem test_lwr_little : see (run (.word 0x99090002) { start [(8, 0x400), (9, 0x6745CCDD)] [(0x402, 1), (0x403, 0x23), (0x404, 0x45), (0x405, 0x67)] with product := ⟨false, false, 0, []⟩ })
    (fun t => [t.gpr[9]]) = [0x67452301] := by decide
theorem test_lw : see (run (.word 0x8D090004) (start [(8, 0x400)] [(0x404, 1), (0x405, 0x23), (0x406, 0x45), (0x407, 0x67)]))
    (fun t => [t.gpr[9]]) = [0x1234567] := by decide
theorem test_lw_misaligned : see (run (.word 0x8D090005) (start [(8, 0x400)] []))
    (fun t => [t.badVAddr, t.epc, t.status, t.pc]) = [0x405, 0x2000, 0x47E000, 0xBFC00180] := by decide
theorem test_sb : see (run (.word 0xA1090004) (start [(8, 0x400), (9, 0x1234567)] [(0x404, 0xAA), (0x405, 0xBB)]))
    (fun t => [(t.byteAt 0x404).setWidth 32, (t.byteAt 0x405).setWidth 32]) = [0x67, 0xBB] := by decide
theorem test_sh : see (run (.word 0xA5090004) (start [(8, 0x400), (9, 0x1234567)] []))
    (fun t => [(t.byteAt 0x404).setWidth 32, (t.byteAt 0x405).setWidth 32]) = [0x45, 0x67] := by decide
theorem test_swl : see (run (.word 0xA9090002) (start [(8, 0x400), (9, 0x1234567)] [(0x402, 0xAA), (0x403, 0xBB), (0x404, 0xCC), (0x405, 0xDD)]))
    (fun t => [(t.byteAt 0x402).setWidth 32, (t.byteAt 0x403).setWidth 32, (t.byteAt 0x404).setWidth 32, (t.byteAt 0x405).setWidth 32]) = [1, 0x23, 0xCC, 0xDD] := by decide
theorem test_swl_little : see (run (.word 0xA9090005) { start [(8, 0x400), (9, 0x1234567)] [(0x402, 0xAA), (0x403, 0xBB), (0x404, 0xCC), (0x405, 0xDD)] with product := ⟨false, false, 0, []⟩ })
    (fun t => [(t.byteAt 0x402).setWidth 32, (t.byteAt 0x403).setWidth 32, (t.byteAt 0x404).setWidth 32, (t.byteAt 0x405).setWidth 32]) = [0xAA, 0xBB, 0x23, 1] := by decide
theorem test_swr : see (run (.word 0xB9090005) (start [(8, 0x400), (9, 0x1234567)] [(0x402, 0xAA), (0x403, 0xBB), (0x404, 0xCC), (0x405, 0xDD)]))
    (fun t => [(t.byteAt 0x402).setWidth 32, (t.byteAt 0x403).setWidth 32, (t.byteAt 0x404).setWidth 32, (t.byteAt 0x405).setWidth 32]) = [0xAA, 0xBB, 0x45, 0x67] := by decide
theorem test_swr_little : see (run (.word 0xB9090002) { start [(8, 0x400), (9, 0x1234567)] [(0x402, 0xAA), (0x403, 0xBB), (0x404, 0xCC), (0x405, 0xDD)] with product := ⟨false, false, 0, []⟩ })
    (fun t => [(t.byteAt 0x402).setWidth 32, (t.byteAt 0x403).setWidth 32, (t.byteAt 0x404).setWidth 32, (t.byteAt 0x405).setWidth 32]) = [0x67, 0x45, 0xCC, 0xDD] := by decide
theorem test_sw : see (run (.word 0xAD090004) (start [(8, 0x400), (9, 0x1234567)] []))
    (fun t => [(t.byteAt 0x404).setWidth 32, (t.byteAt 0x405).setWidth 32, (t.byteAt 0x406).setWidth 32, (t.byteAt 0x407).setWidth 32]) = [1, 0x23, 0x45, 0x67] := by decide
theorem test_sw_little : see (run (.word 0xAD090004) { start [(8, 0x400), (9, 0x1234567)] [] with product := ⟨false, false, 0, []⟩ })
    (fun t => [(t.byteAt 0x404).setWidth 32, (t.byteAt 0x405).setWidth 32, (t.byteAt 0x406).setWidth 32, (t.byteAt 0x407).setWidth 32]) = [0x67, 0x45, 0x23, 1] := by decide
theorem test_sync : see (run (.word 0x0000000F) (start [] [])) (fun t => [t.pc]) = [0x2004] := by decide
theorem test_add : see (run (.word 0x00432020) (start [(2, 0x2000000), (3, 0x1234567)] []))
    (fun t => [t.gpr[4]]) = [0x3234567] := by decide
theorem test_add_overflows : see (run (.word 0x00432020) (start [(2, 0x7FFFFFFF), (3, 1), (4, 0x55)] []))
    (fun t => [t.gpr[4], t.epc, t.pc]) = [0x55, 0x2000, 0xBFC00180] := by decide
theorem test_addu : see (run (.word 0x00432021) (start [(2, 0x7FFFFFFF), (3, 1)] []))
    (fun t => [t.gpr[4]]) = [0x80000000] := by decide
theorem test_sub : see (run (.word 0x00432022) (start [(2, 0x76543210), (3, 0x50000000)] []))
    (fun t => [t.gpr[4]]) = [0x26543210] := by decide
theorem test_sub_overflows : see (run (.word 0x00432022) (start [(2, 0x7FFFFFFF), (3, 0x8FFFFFFF)] []))
    (fun t => [t.epc, t.pc]) = [0x2000, 0xBFC00180] := by decide
theorem test_subu : see (run (.word 0x00432023) (start [(2, 0x7FFFFFFF), (3, 0x8FFFFFFF)] []))
    (fun t => [t.gpr[4]]) = [0xF0000000] := by decide
theorem test_and : see (run (.word 0x00432024) (start [(2, 0x80007350), (3, 0x3456)] []))
    (fun t => [t.gpr[4]]) = [0x3050] := by decide
theorem test_or : see (run (.word 0x00432025) (start [(2, 0x80007350), (3, 0x3456)] []))
    (fun t => [t.gpr[4]]) = [0x80007756] := by decide
theorem test_xor : see (run (.word 0x00432026) (start [(2, 0x10007350), (3, 0x3456)] []))
    (fun t => [t.gpr[4]]) = [0x10004706] := by decide
theorem test_nor : see (run (.word 0x00432027) (start [(2, 0x80007350), (3, 0x3456)] []))
    (fun t => [t.gpr[4]]) = [0x7FFF88A9] := by decide
theorem test_slt : see (run (.word 0x0043202A) (start [(2, 0x80000000), (3, 1)] [])) (fun t => [t.gpr[4]]) = [1] := by decide
theorem test_sltu : see (run (.word 0x0043202B) (start [(2, 0x80000000), (3, 1)] [])) (fun t => [t.gpr[4]]) = [0] := by decide
theorem test_addi : see (run (.word 0x20431234) (start [(2, 0x200F000)] [])) (fun t => [t.gpr[3]]) = [0x2010234] := by decide
theorem test_addi_overflows : see (run (.word 0x2043FFFF) (start [(2, 0x80000000), (3, 9)] []))
    (fun t => [t.gpr[3], t.pc]) = [9, 0xBFC00180] := by decide
theorem test_addiu : see (run (.word 0x2443FFFF) (start [(2, 0x80000000)] [])) (fun t => [t.gpr[3]]) = [0x7FFFFFFF] := by decide
theorem test_addiu_r0 : see (run (.word 0x24000005) (start [] [])) (fun t => [t.gpr[0], t.pc]) = [0, 0x2004] := by decide
theorem test_slti : see (run (.word 0x28438000) (start [(2, 0xFFFF7FFF)] [])) (fun t => [t.gpr[3]]) = [1] := by decide
theorem test_sltiu : see (run (.word 0x2C438000) (start [(2, 0xFFFF8000)] [])) (fun t => [t.gpr[3]]) = [0] := by decide
theorem test_sltiu_small : see (run (.word 0x2C438000) (start [(2, 5)] [])) (fun t => [t.gpr[3]]) = [1] := by decide
theorem test_andi : see (run (.word 0x30431234) (start [(2, 0x7350)] [])) (fun t => [t.gpr[3]]) = [0x1210] := by decide
theorem test_ori : see (run (.word 0x34438000) (start [(2, 0xFFFF0000)] [])) (fun t => [t.gpr[3]]) = [0xFFFF8000] := by decide
theorem test_xori : see (run (.word 0x3843FFFF) (start [(2, 0xFFFF0000)] [])) (fun t => [t.gpr[3]]) = [0xFFFFFFFF] := by decide
theorem test_lui : see (run (.word 0x3C091234) (start [] [])) (fun t => [t.gpr[9]]) = [0x12340000] := by decide
theorem test_sll : see (run (.word 0x00021900) (start [(2, 0x2170ADC5)] [])) (fun t => [t.gpr[3]]) = [0x170ADC50] := by decide
theorem test_srl : see (run (.word 0x00021C02) (start [(2, 0xB5214C5E)] [])) (fun t => [t.gpr[3]]) = [0xB521] := by decide
theorem test_sra : see (run (.word 0x00021C03) (start [(2, 0xB5214C5E)] [])) (fun t => [t.gpr[3]]) = [0xFFFFB521] := by decide
theorem test_sllv : see (run (.word 0x00622004) (start [(2, 0x2170ADC5), (3, 0x24)] []))
    (fun t => [t.gpr[4]]) = [0x170ADC50] := by decide
theorem test_srlv : see (run (.word 0x00622006) (start [(2, 0xB5214C5E), (3, 0x10)] []))
    (fun t => [t.gpr[4]]) = [0xB521] := by decide
theorem test_srav : see (run (.word 0x00622007) (start [(2, 0xB5214C5E), (3, 0x10)] []))
    (fun t => [t.gpr[4]]) = [0xFFFFB521] := by decide
theorem test_mult : see (run (.word 0x00432018) (start [(2, 0x1234567), (3, 0x89ABCDEF)] []))
    (fun t => [t.hi, t.lo, t.gpr[4]]) = [0xFF795E36, 0xC94E4629, 0xC94E4629] := by decide
theorem test_multu : see (run (.word 0x00432019) (start [(2, 0x1234567), (3, 0x89ABCDEF)] []))
    (fun t => [t.hi, t.lo, t.gpr[4]]) = [0x9CA39D, 0xC94E4629, 0xC94E4629] := by decide
theorem test_div : see (run (.word 0x0043001A) (start [(2, 0xFFFFFFF9), (3, 2)] []))
    (fun t => [t.lo, t.hi]) = [0xFFFFFFFD, 0xFFFFFFFF] := by decide
theorem test_div_negative_divisor : see (run (.word 0x0043001A) (start [(2, 7), (3, 0xFFFFFFFE)] []))
    (fun t => [t.lo, t.hi]) = [0xFFFFFFFD, 1] := by decide
theorem test_divu : see (run (.word 0x0043001B) (start [(2, 0xFFFFFFF9), (3, 2)] []))
    (fun t => [t.lo, t.hi]) = [0x7FFFFFFC, 1] := by decide
theorem test_madd : see (run (.word 0x70432000) { start [(2, 0x1234567), (3, 0x89ABCDEF)] [] with lo := 0xFFFFFFFF })
    (fun t => [t.hi, t.lo, t.gpr[4]]) = [0xFF795E37, 0xC94E4628, 0xC94E4628] := by decide
theorem test_maddu : see (run (.word 0x70432001) { start [(2, 0x1234567), (3, 0x89ABCDEF)] [] with lo := 0xFFFFFFFF })
    (fun t => [t.hi, t.lo, t.gpr[4]]) = [0x9CA39E, 0xC94E4628, 0xC94E4628] := by decide
theorem test_mfhi : see (run (.word 0x00002010) { start [] [] with hi := 5, lo := 6 }) (fun t => [t.gpr[4]]) = [5] := by decide
theorem test_mflo : see (run (.word 0x00002012) { start [] [] with hi := 5, lo := 6 }) (fun t => [t.gpr[4]]) = [6] := by decide
theorem test_mthi : see (run (.word 0x00400011) { start [(2, 7)] [] with hi := 5, lo := 6 })
    (fun t => [t.hi, t.lo]) = [7, 6] := by decide
theorem test_mtlo : see (run (.word 0x00400013) { start [(2, 7)] [] with hi := 5, lo := 6 })
    (fun t => [t.hi, t.lo]) = [5, 7] := by decide
theorem test_j : see (run (.word 0x08009000) (start [] [])) (fun t => [t.pc, target t]) = [0x2004, 0x24000] := by decide
theorem test_j_region : see (run (.word 0x08000000) { start [] [] with pc := 0x8FFFFFFC })
    (fun t => [target t]) = [0x90000000] := by decide
theorem test_jal : see (run (.word 0x0C009000) (start [] [])) (fun t => [target t, t.gpr[31]]) = [0x24000, 0x2008] := by decide
theorem test_jalx : see (run (.word 0x74009000) (start [] [])) (fun t => [target t, t.gpr[31]]) = [0x24001, 0x2008] := by decide
theorem test_jr : see (run (.word 0x03E00008) (start [(31, 0x2005)] []))
    (fun t => [t.pc, target t]) = [0x2004, 0x2005] := by decide
theorem test_jalr : see (run (.word 0x0040F809) (start [(2, 0x123457)] []))
    (fun t => [target t, t.gpr[31]]) = [0x123457, 0x2008] := by decide
theorem test_beq : see (run (.word 0x1000FFFF) (start [] [])) (fun t => [target t]) = [0x2000] := by decide
theorem test_bne : see (run (.word 0x1509FFFE) (start [(8, 1)] [])) (fun t => [target t]) = [0x1FFC] := by decide
theorem test_bne_untaken : see (run (.word 0x1509FFFE) (start [] []))
    (fun t => [target t, nullified t]) = [0x2008, 0] := by decide
theorem test_blez : see (run (.word 0x19000100) (start [] [])) (fun t => [target t]) = [0x2404] := by decide
theorem test_bgtz : see (run (.word 0x1D000100) (start [(8, 1)] [])) (fun t => [target t]) = [0x2404] := by decide
theorem test_bgtz_untaken : see (run (.word 0x1D000100) (start [] []))
    (fun t => [target t, nullified t]) = [0x2008, 0] := by decide
theorem test_bltz : see (run (.word 0x0500FF00) (start [(8, 0x80000000)] [])) (fun t => [target t]) = [0x1C04] := by decide
theorem test_bgez : see (run (.word 0x0501FF00) (start [] [])) (fun t => [target t]) = [0x1C04] := by decide
theorem test_bltzal : see (run (.word 0x05100100) (start [(8, 0xFFFFFFFF)] []))
    (fun t => [target t, t.gpr[31]]) = [0x2404, 0x2008] := by decide
theorem test_bgezal : see (run (.word 0x05110100) (start [] []))
    (fun t => [target t, t.gpr[31]]) = [0x2404, 0x2008] := by decide
theorem test_bltzl : see (run (.word 0x0502FF00) (start [(8, 0x80000000)] []))
    (fun t => [target t, nullified t]) = [0x1C04, 0] := by decide
theorem test_bgezl : see (run (.word 0x0503FF00) (start [(8, 0x80000000)] []))
    (fun t => [target t, nullified t]) = [0x2008, 1] := by decide
theorem test_bltzall : see (run (.word 0x05120100) (start [(8, 1)] []))
    (fun t => [target t, nullified t, t.gpr[31]]) = [0x2008, 1, 0x2008] := by decide
theorem test_bgezall : see (run (.word 0x05130100) (start [(8, 0xFFFFFFFF)] []))
    (fun t => [target t, nullified t, t.gpr[31]]) = [0x2008, 1, 0x2008] := by decide
theorem test_beql : see (run (.word 0x51000002) (start [(8, 1)] []))
    (fun t => [target t, nullified t]) = [0x2008, 1] := by decide
theorem test_bnel : see (run (.word 0x55090002) (start [] [])) (fun t => [target t, nullified t]) = [0x2008, 1] := by decide
theorem test_blezl : see (run (.word 0x59000100) (start [(8, 1)] []))
    (fun t => [target t, nullified t]) = [0x2008, 1] := by decide
theorem test_bgtzl : see (run (.word 0x5D000100) (start [] [])) (fun t => [target t, nullified t]) = [0x2008, 1] := by decide
theorem test_mfc0 : see (run (.word 0x401A7000) { start [] [] with epc := 0x1234 })
    (fun t => [t.gpr[26]]) = [0x1234] := by decide
theorem test_mfc0_user : see (run (.word 0x40026000) { start [] [] with status := 2 })
    (fun t => [t.cause, t.epc, t.status, t.pc]) = [0x2C, 0x2000, 8, 0x80000080] := by decide
theorem test_mtc0 : see (run (.word 0x409A6000) (start [(26, 0x10000301)] [])) (fun t => [t.status]) = [0x10000301] := by decide
theorem test_mtc0_ie : see (run (.word 0x409DF800) (start [(29, 8)] [])) (fun t => [t.status]) = [0x40E001] := by decide
theorem test_mfc1 : see (run (.word 0x44020000) { start [] [] with status := 0xF040E000, cop1 := unit, cop2 := unit, cop3 := unit })
    (fun t => [t.gpr[2]]) = [5] := by decide
theorem test_mfc1_unusable : see (run (.word 0x44020000) (start [] []))
    (fun t => [t.cause, t.pc]) = [0x1000002C, 0xBFC00180] := by decide
theorem test_mtc1 : see (run (.word 0x44820000) { start [(2, 7)] [] with status := 0xF040E000, cop1 := unit, cop2 := unit, cop3 := unit })
    (fun t => [t.cop1.data[0]]) = [7] := by decide
theorem test_cfc1 : see (run (.word 0x44420000) { start [] [] with status := 0xF040E000, cop1 := unit, cop2 := unit, cop3 := unit })
    (fun t => [t.gpr[2]]) = [6] := by decide
theorem test_ctc1 : see (run (.word 0x44C20000) { start [(2, 7)] [] with status := 0xF040E000, cop1 := unit, cop2 := unit, cop3 := unit })
    (fun t => [t.cop1.ctrl[0]]) = [7] := by decide
theorem test_cop1 : see (run (.word 0x46000000) { start [] [] with status := 0xF040E000, cop1 := unit, cop2 := unit, cop3 := unit })
    (fun t => [t.pc]) = [0x2004] := by decide
theorem test_mfc2 : see (run (.word 0x48020000) { start [] [] with status := 0xF040E000, cop1 := unit, cop2 := unit, cop3 := unit })
    (fun t => [t.gpr[2]]) = [5] := by decide
theorem test_mtc2 : see (run (.word 0x48820000) { start [(2, 7)] [] with status := 0xF040E000, cop1 := unit, cop2 := unit, cop3 := unit })
    (fun t => [t.cop2.data[0]]) = [7] := by decide
theorem test_cfc2 : see (run (.word 0x48420000) { start [] [] with status := 0xF040E000, cop1 := unit, cop2 := unit, cop3 := unit })
    (fun t => [t.gpr[2]]) = [6] := by decide
theorem test_ctc2 : see (run (.word 0x48C20000) { start [(2, 7)] [] with status := 0xF040E000, cop1 := unit, cop2 := unit, cop3 := unit })
    (fun t => [t.cop2.ctrl[0]]) = [7] := by decide
theorem test_cop2 : see (run (.word 0x4A000000) { start [] [] with status := 0xF040E000, cop1 := unit, cop2 := unit, cop3 := unit })
    (fun t => [t.pc]) = [0x2004] := by decide
theorem test_mfc3 : see (run (.word 0x4C020000) { start [] [] with status := 0xF040E000, cop1 := unit, cop2 := unit, cop3 := unit })
    (fun t => [t.gpr[2]]) = [5] := by decide
theorem test_mtc3 : see (run (.word 0x4C820000) { start [(2, 7)] [] with status := 0xF040E000, cop1 := unit, cop2 := unit, cop3 := unit })
    (fun t => [t.cop3.data[0]]) = [7] := by decide
theorem test_cfc3 : see (run (.word 0x4C420000) { start [] [] with status := 0xF040E000, cop1 := unit, cop2 := unit, cop3 := unit })
    (fun t => [t.gpr[2]]) = [6] := by decide
theorem test_ctc3 : see (run (.word 0x4CC20000) { start [(2, 7)] [] with status := 0xF040E000, cop1 := unit, cop2 := unit, cop3 := unit })
    (fun t => [t.cop3.ctrl[0]]) = [7] := by decide
theorem test_cop3 : see (run (.word 0x4E000000) { start [] [] with status := 0xF040E000, cop1 := unit, cop2 := unit, cop3 := unit })
    (fun t => [t.pc]) = [0x2004] := by decide
theorem test_bc0f : see (run (.word 0x41000100) (start [] [])) (fun t => [target t]) = [0x2404] := by decide
theorem test_bc0t : see (run (.word 0x41010100) { start [] [] with cpcond := 1 }) (fun t => [target t]) = [0x2404] := by decide
theorem test_bc0fl : see (run (.word 0x41020100) { start [] [] with cpcond := 1 })
    (fun t => [target t, nullified t]) = [0x2008, 1] := by decide
theorem test_bc0tl : see (run (.word 0x41030100) { start [] [] with cpcond := 1 })
    (fun t => [target t, nullified t]) = [0x2404, 0] := by decide
theorem test_bc1f : see (run (.word 0x45000100) { start [] [] with status := 0xF040E000, cop1 := unit, cop2 := unit, cop3 := unit, cpcond := 0xD })
    (fun t => [target t]) = [0x2404] := by decide
theorem test_bc1t : see (run (.word 0x4501FF00) { start [] [] with status := 0xF040E000, cop1 := unit, cop2 := unit, cop3 := unit, cpcond := 2 })
    (fun t => [target t]) = [0x1C04] := by decide
theorem test_bc1fl : see (run (.word 0x45020100) { start [] [] with status := 0xF040E000, cop1 := unit, cop2 := unit, cop3 := unit, cpcond := 2 })
    (fun t => [target t, nullified t]) = [0x2008, 1] := by decide
theorem test_bc1tl : see (run (.word 0x4503FF00) { start [] [] with status := 0xF040E000, cop1 := unit, cop2 := unit, cop3 := unit, cpcond := 2 })
    (fun t => [target t, nullified t]) = [0x1C04, 0] := by decide
theorem test_bc2f : see (run (.word 0x49000100) { start [] [] with status := 0xF040E000, cop1 := unit, cop2 := unit, cop3 := unit, cpcond := 0xB })
    (fun t => [target t]) = [0x2404] := by decide
theorem test_bc2t : see (run (.word 0x4901FF00) { start [] [] with status := 0xF040E000, cop1 := unit, cop2 := unit, cop3 := unit, cpcond := 4 })
    (fun t => [target t]) = [0x1C04] := by decide
theorem test_bc2fl : see (run (.word 0x49020100) { start [] [] with status := 0xF040E000, cop1 := unit, cop2 := unit, cop3 := unit, cpcond := 4 })
    (fun t => [target t, nullified t]) = [0x2008, 1] := by decide
theorem test_bc2tl : see (run (.word 0x4903FF00) { start [] [] with status := 0xF040E000, cop1 := unit, cop2 := unit, cop3 := unit, cpcond := 4 })
    (fun t => [target t, nullified t]) = [0x1C04, 0] := by decide
theorem test_bc3f : see (run (.word 0x4D000100) { start [] [] with status := 0xF040E000, cop1 := unit, cop2 := unit, cop3 := unit, cpcond := 7 })
    (fun t => [target t]) = [0x2404] := by decide
theorem test_bc3t : see (run (.word 0x4D01FF00) { start [] [] with status := 0xF040E000, cop1 := unit, cop2 := unit, cop3 := unit, cpcond := 8 })
    (fun t => [target t]) = [0x1C04] := by decide
theorem test_bc3fl : see (run (.word 0x4D020100) { start [] [] with status := 0xF040E000, cop1 := unit, cop2 := unit, cop3 := unit, cpcond := 8 })
    (fun t => [target t, nullified t]) = [0x2008, 1] := by decide
theorem test_bc3tl : see (run (.word 0x4D03FF00) { start [] [] with status := 0xF040E000, cop1 := unit, cop2 := unit, cop3 := unit, cpcond := 8 })
    (fun t => [target t, nullified t]) = [0x1C04, 0] := by decide
theorem test_rfe : see (run (.word 0x42000010) { start [] [] with status := 0x44008 })
    (fun t => [t.status]) = [0x48002] := by decide
theorem test_rfe_cmask : see (run (.word 0x42000010) { start [] [] with status := 0x47E000 })
    (fun t => [t.status]) = [0x47E000] := by decide
theorem test_deret : see (run (.word 0x4200001F) { start [] [] with debug := 0x40000000, depc := 0x1235 })
    (fun t => [t.pc, target t, t.debug]) = [0x2004, 0x1235, 0x40000000] := by decide
theorem test_tlbr : see (run (.word 0x42000001) (start [] [])) (fun t => [t.pc]) = [0x2004] := by decide
theorem test_tlbwi : see (run (.word 0x42000002) (start [] [])) (fun t => [t.pc]) = [0x2004] := by decide
theorem test_tlbwr : see (run (.word 0x42000006) (start [] [])) (fun t => [t.pc]) = [0x2004] := by decide
theorem test_tlbp : see (run (.word 0x42000008) (start [] [])) (fun t => [t.pc]) = [0x2004] := by decide
theorem test_cache : refuses (run (.word 0xBC000000) (start [] [])) .cacheAbsent = true := by decide
theorem test_lwcz : see (run (.word 0xC8000000) (start [] [])) (fun t => [t.epc, t.pc]) = [0x2000, 0xBFC00180] := by decide
theorem test_swcz : see (run (.word 0xE8000000) (start [] [])) (fun t => [t.epc, t.pc]) = [0x2000, 0xBFC00180] := by decide
theorem test_syscall : see (run (.word 0x0000000C) { start [] [] with status := 0xE000 })
    (fun t => [t.epc, t.status, t.pc]) = [0x2000, 0x7E000, 0x80000080] := by decide
theorem test_break : see (run (.word 0x0000000D) (start [] []))
    (fun t => [t.epc, t.status, t.pc]) = [0x2000, 0x47E000, 0xBFC00180] := by decide
theorem test_sdbbp : see (run (.word 0x0000000E) (start [] []))
    (fun t => [t.depc, t.debug, t.pc]) = [0x2000, 0x40000002, 0xBFC00200] := by decide
theorem test_lb16 : see (run (.half 0x8264) (start [(2, 0x400)] [(0x404, 0xF2)]))
    (fun t => [t.gpr[3], t.pc]) = [0xFFFFFFF2, 0x2003] := by decide
theorem test_lbu16 : see (run (.half 0xA264) (start [(2, 0x400)] [(0x404, 0xF2)])) (fun t => [t.gpr[3]]) = [0xF2] := by decide
theorem test_lh16 : see (run (.half 0x8A62) (start [(2, 0x400)] [(0x404, 0xFF), (0x405, 2)]))
    (fun t => [t.gpr[3]]) = [0xFFFFFF02] := by decide
theorem test_lhu16 : see (run (.half 0xAA62) (start [(2, 0x400)] [(0x404, 0xFF), (0x405, 2)]))
    (fun t => [t.gpr[3]]) = [0xFF02] := by decide
theorem test_lw16 : see (run (.half 0x9A61) (start [(2, 0x400)] [(0x404, 1), (0x405, 0x23), (0x406, 0x45), (0x407, 0x67)]))
    (fun t => [t.gpr[3]]) = [0x1234567] := by decide
theorem test_lw16_registers : see (run (.half 0x9900) (start [(17, 0x404)] [(0x404, 1), (0x405, 0x23), (0x406, 0x45), (0x407, 0x67)]))
    (fun t => [t.gpr[16]]) = [0x1234567] := by decide
theorem test_lwpc : see (run (.half 0xB304) (start [] [(0x2010, 1), (0x2011, 0x23), (0x2012, 0x45), (0x2013, 0x67)]))
    (fun t => [t.gpr[3]]) = [0x1234567] := by decide
theorem test_lwpc_masked : see (run (.half 0xB304) { start [] [(0x2010, 1), (0x2011, 0x23), (0x2012, 0x45), (0x2013, 0x67)] with pc := 0x2002 })
    (fun t => [t.gpr[3]]) = [0x1234567] := by decide
theorem test_lwsp : see (run (.half 0x9301) (start [(29, 0x400)] [(0x404, 1), (0x405, 0x23), (0x406, 0x45), (0x407, 0x67)]))
    (fun t => [t.gpr[3]]) = [0x1234567] := by decide
theorem test_sb16 : see (run (.half 0xC264) (start [(2, 0x400), (3, 0x1234567)] []))
    (fun t => [(t.byteAt 0x404).setWidth 32]) = [0x67] := by decide
theorem test_sh16 : see (run (.half 0xCA62) (start [(2, 0x400), (3, 0x1234567)] []))
    (fun t => [(t.byteAt 0x404).setWidth 32, (t.byteAt 0x405).setWidth 32]) = [0x45, 0x67] := by decide
theorem test_sw16 : see (run (.half 0xDA61) (start [(2, 0x400), (3, 0x1234567)] []))
    (fun t => [(t.byteAt 0x404).setWidth 32, (t.byteAt 0x405).setWidth 32, (t.byteAt 0x406).setWidth 32, (t.byteAt 0x407).setWidth 32]) = [1, 0x23, 0x45, 0x67] := by decide
theorem test_swsp : see (run (.half 0xD301) (start [(29, 0x400), (3, 0x1234567)] []))
    (fun t => [(t.byteAt 0x404).setWidth 32, (t.byteAt 0x405).setWidth 32, (t.byteAt 0x406).setWidth 32, (t.byteAt 0x407).setWidth 32]) = [1, 0x23, 0x45, 0x67] := by decide
theorem test_swrasp : see (run (.half 0x6201) (start [(29, 0x400), (31, 0x1234567)] []))
    (fun t => [(t.byteAt 0x404).setWidth 32, (t.byteAt 0x405).setWidth 32, (t.byteAt 0x406).setWidth 32, (t.byteAt 0x407).setWidth 32]) = [1, 0x23, 0x45, 0x67] := by decide
theorem test_addiu3 : see (run (.half 0x426A) (start [(2, 0x1234)] [])) (fun t => [t.gpr[3]]) = [0x122E] := by decide
theorem test_addiupc : see (run (.half 0x0B04) { start [] [] with pc := 0x123456A })
    (fun t => [t.gpr[3]]) = [0x1234578] := by decide
theorem test_addiu8 : see (run (.half 0x4BFF) (start [(3, 0x1234)] [])) (fun t => [t.gpr[3]]) = [0x1233] := by decide
theorem test_addiusp : see (run (.half 0x0304) (start [(29, 0x2000)] [])) (fun t => [t.gpr[3]]) = [0x2010] := by decide
theorem test_adjsp : see (run (.half 0x6301) (start [(29, 0x2000)] [])) (fun t => [t.gpr[29]]) = [0x2008] := by decide
theorem test_adjsp_down : see (run (.half 0x63FE) (start [(29, 0x2000)] [])) (fun t => [t.gpr[29]]) = [0x1FF0] := by decide
theorem test_addu16 : see (run (.half 0xE271) (start [(2, 0x2000000), (3, 0x1234567)] []))
    (fun t => [t.gpr[4]]) = [0x3234567] := by decide
theorem test_subu16 : see (run (.half 0xE273) (start [(3, 1)] [])) (fun t => [t.gpr[4]]) = [0xFFFFFFFF] := by decide
theorem test_neg16 : see (run (.half 0xEB4B) (start [(2, 1)] [])) (fun t => [t.gpr[3]]) = [0xFFFFFFFF] := by decide
theorem test_slt16 : see (run (.half 0xEEE2) (start [(6, 0xFFFFFFFF), (7, 1)] [])) (fun t => [t.gpr[24]]) = [1] := by decide
theorem test_sltu16 : see (run (.half 0xEEE3) (start [(6, 0xFFFFFFFF), (7, 1)] [])) (fun t => [t.gpr[24]]) = [0] := by decide
theorem test_slti16 : see (run (.half 0x5712) (start [(7, 0xFFFFFFFF)] [])) (fun t => [t.gpr[24]]) = [1] := by decide
theorem test_sltiu16 : see (run (.half 0x5F12) (start [(7, 0xFFFFFFFF)] [])) (fun t => [t.gpr[24]]) = [0] := by decide
theorem test_movr32 : see (run (.half 0x6778) (start [(24, 9)] [])) (fun t => [t.gpr[3]]) = [9] := by decide
theorem test_mov32r : see (run (.half 0x65FB) (start [(3, 9)] [])) (fun t => [t.gpr[31]]) = [9] := by decide
theorem test_cmp16 : see (run (.half 0xEA6A) (start [(2, 0x1234), (3, 0x1230)] [])) (fun t => [t.gpr[24]]) = [4] := by decide
theorem test_cmpi16 : see (run (.half 0x7712) (start [(7, 0x12), (24, 9)] [])) (fun t => [t.gpr[24]]) = [0] := by decide
theorem test_and16 : see (run (.half 0xEA6C) (start [(2, 0xFF00FF00), (3, 0xFF00FF0)] []))
    (fun t => [t.gpr[2]]) = [0xF000F00] := by decide
theorem test_or16 : see (run (.half 0xEA6D) (start [(2, 0xFF00FF00), (3, 0xFF00FF0)] []))
    (fun t => [t.gpr[2]]) = [0xFFF0FFF0] := by decide
theorem test_xor16 : see (run (.half 0xEA6E) (start [(2, 0xFF00FF00), (3, 0xFF00FF0)] []))
    (fun t => [t.gpr[2]]) = [0xF0F0F0F0] := by decide
theorem test_not16 : see (run (.half 0xEB4F) (start [(2, 0x1234567)] [])) (fun t => [t.gpr[3]]) = [0xFEDCBA98] := by decide
theorem test_li16 : see (run (.half 0x6BFF) (start [] [])) (fun t => [t.gpr[3]]) = [0xFF] := by decide
theorem test_sll16 : see (run (.half 0x3350) (start [(2, 0x2170ADC5)] [])) (fun t => [t.gpr[3]]) = [0x170ADC50] := by decide
theorem test_sll16_by_eight : see (run (.half 0x3340) (start [(2, 0x2170ADC5)] []))
    (fun t => [t.gpr[3]]) = [0x70ADC500] := by decide
theorem test_srl16 : see (run (.half 0x3342) (start [(2, 0xB5214C5E)] [])) (fun t => [t.gpr[3]]) = [0xB5214C] := by decide
theorem test_sra16 : see (run (.half 0x3343) (start [(2, 0xB521AE5E)] [])) (fun t => [t.gpr[3]]) = [0xFFB521AE] := by decide
theorem test_sllv16 : see (run (.half 0xEA64) (start [(3, 1), (2, 0x24)] [])) (fun t => [t.gpr[3]]) = [0x10] := by decide
theorem test_srlv16 : see (run (.half 0xEA66) (start [(3, 0x80000000), (2, 4)] []))
    (fun t => [t.gpr[3]]) = [0x8000000] := by decide
theorem test_srav16 : see (run (.half 0xEA67) (start [(3, 0x80000000), (2, 4)] []))
    (fun t => [t.gpr[3]]) = [0xF8000000] := by decide
theorem test_mult16 : see (run (.half 0xEB98) (start [(3, 0x1234567), (4, 0x89ABCDEF)] []))
    (fun t => [t.hi, t.lo]) = [0xFF795E36, 0xC94E4629] := by decide
theorem test_multu16 : see (run (.half 0xEB99) (start [(3, 0x1234567), (4, 0x89ABCDEF)] []))
    (fun t => [t.hi, t.lo]) = [0x9CA39D, 0xC94E4629] := by decide
theorem test_div16 : see (run (.half 0xEA7A) (start [(2, 0xFFFFFFF9), (3, 2)] []))
    (fun t => [t.lo, t.hi]) = [0xFFFFFFFD, 0xFFFFFFFF] := by decide
theorem test_divu16 : see (run (.half 0xEA7B) (start [(2, 0xFFFFFFF9), (3, 2)] []))
    (fun t => [t.lo, t.hi]) = [0x7FFFFFFC, 1] := by decide
theorem test_mfhi16 : see (run (.half 0xEB10) { start [] [] with hi := 5, lo := 6 }) (fun t => [t.gpr[3]]) = [5] := by decide
theorem test_mflo16 : see (run (.half 0xEB12) { start [] [] with hi := 5, lo := 6 }) (fun t => [t.gpr[3]]) = [6] := by decide
theorem test_jal16 : see (run (.pair 0x1800 0x9000) (start [] []))
    (fun t => [t.pc, target t, t.gpr[31]]) = [0x2005, 0x24001, 0x2007] := by decide
theorem test_jalx16 : see (run (.pair 0x1C00 0x9000) (start [] []))
    (fun t => [target t, t.gpr[31]]) = [0x24000, 0x2007] := by decide
theorem test_jr16 : see (run (.half 0xEA00) (start [(2, 0x123458)] []))
    (fun t => [t.pc, target t]) = [0x2003, 0x123458] := by decide
theorem test_jrra : see (run (.half 0xE820) (start [(31, 0x2008)] [])) (fun t => [target t]) = [0x2008] := by decide
theorem test_jalr16 : see (run (.half 0xEA40) (start [(2, 0x123458)] []))
    (fun t => [target t, t.gpr[31]]) = [0x123458, 0x2005] := by decide
theorem test_beqz : see (run (.half 0x22FD) (start [] [])) (fun t => [t.pc]) = [0x1FFD] := by decide
theorem test_beqz_untaken : see (run (.half 0x22FD) (start [(2, 1)] [])) (fun t => [t.pc]) = [0x2003] := by decide
theorem test_bnez : see (run (.half 0x2AFD) (start [(2, 1)] [])) (fun t => [t.pc]) = [0x1FFD] := by decide
theorem test_bteqz : see (run (.half 0x60FD) (start [] [])) (fun t => [t.pc]) = [0x1FFD] := by decide
theorem test_btnez : see (run (.half 0x61FD) (start [(24, 1)] [])) (fun t => [t.pc]) = [0x1FFD] := by decide
theorem test_b : see (run (.half 0x17FC) (start [] [])) (fun t => [t.pc]) = [0x1FFB] := by decide
theorem test_brk16 : see (run (.half 0xE8A5) (start [] [])) (fun t => [t.epc, t.pc]) = [0x2001, 0xBFC00180] := by decide
theorem test_sdbbp16 : see (run (.half 0xE8A1) (start [] []))
    (fun t => [t.depc, t.debug, t.pc]) = [0x2001, 0x40000002, 0xBFC00200] := by decide
theorem test_extend : see (run (.pair 0xF000 0xE271) (start [] [])) (fun t => [t.epc, t.pc]) = [0x2001, 0xBFC00180] := by decide
theorem test_lbE : see (run (.pair 0xF7FF 0x827F) (start [(2, 0x401)] [(0x400, 0x80)]))
    (fun t => [t.gpr[3], t.pc]) = [0xFFFFFF80, 0x2005] := by decide
theorem test_lbuE : see (run (.pair 0xF7FF 0xA27F) (start [(2, 0x401)] [(0x400, 0x80)]))
    (fun t => [t.gpr[3]]) = [0x80] := by decide
theorem test_lhE : see (run (.pair 0xF000 0x8A64) (start [(2, 0x400)] [(0x404, 0xFF), (0x405, 2)]))
    (fun t => [t.gpr[3]]) = [0xFFFFFF02] := by decide
theorem test_lhE_misaligned : see (run (.pair 0xF000 0x8A63) (start [(2, 0x400)] []))
    (fun t => [t.badVAddr, t.epc]) = [0x403, 0x2001] := by decide
theorem test_lhuE : see (run (.pair 0xF000 0xAA64) (start [(2, 0x400)] [(0x404, 0xFF), (0x405, 2)]))
    (fun t => [t.gpr[3]]) = [0xFF02] := by decide
theorem test_lwE : see (run (.pair 0xF7FF 0x9A7C) (start [(2, 0x404)] [(0x400, 1), (0x401, 0x23), (0x402, 0x45), (0x403, 0x67)]))
    (fun t => [t.gpr[3]]) = [0x1234567] := by decide
theorem test_lwpcE : see (run (.pair 0xF000 0xB310) (start [] [(0x2010, 1), (0x2011, 0x23), (0x2012, 0x45), (0x2013, 0x67)]))
    (fun t => [t.gpr[3]]) = [0x1234567] := by decide
theorem test_lwspE : see (run (.pair 0xF222 0x9314) (start [] [(0x1234, 1), (0x1235, 0x23), (0x1236, 0x45), (0x1237, 0x67)]))
    (fun t => [t.gpr[3]]) = [0x1234567] := by decide
theorem test_sbE : see (run (.pair 0xF000 0xC264) (start [(2, 0x400), (3, 0x1234567)] []))
    (fun t => [(t.byteAt 0x404).setWidth 32]) = [0x67] := by decide
theorem test_shE : see (run (.pair 0xF000 0xCA64) (start [(2, 0x400), (3, 0x1234567)] []))
    (fun t => [(t.byteAt 0x404).setWidth 32, (t.byteAt 0x405).setWidth 32]) = [0x45, 0x67] := by decide
theorem test_swE : see (run (.pair 0xF000 0xDA64) (start [(2, 0x400), (3, 0x1234567)] []))
    (fun t => [(t.byteAt 0x404).setWidth 32, (t.byteAt 0x405).setWidth 32, (t.byteAt 0x406).setWidth 32, (t.byteAt 0x407).setWidth 32]) = [1, 0x23, 0x45, 0x67] := by decide
theorem test_swspE : see (run (.pair 0xF000 0xD304) (start [(29, 0x400), (3, 0x1234567)] []))
    (fun t => [(t.byteAt 0x404).setWidth 32, (t.byteAt 0x405).setWidth 32, (t.byteAt 0x406).setWidth 32, (t.byteAt 0x407).setWidth 32]) = [1, 0x23, 0x45, 0x67] := by decide
theorem test_swraspE : see (run (.pair 0xF001 0x6200) (start [(31, 0x1234567)] []))
    (fun t => [(t.byteAt 0x800).setWidth 32, (t.byteAt 0x801).setWidth 32, (t.byteAt 0x802).setWidth 32, (t.byteAt 0x803).setWidth 32]) = [1, 0x23, 0x45, 0x67] := by decide
theorem test_addiu3E : see (run (.pair 0xF232 0x4264) (start [(2, 0x1234)] [])) (fun t => [t.gpr[3]]) = [0x2468] := by decide
theorem test_addiupcE : see (run (.pair 0xF000 0x0B10) (start [] [])) (fun t => [t.gpr[3]]) = [0x2010] := by decide
theorem test_addiu8E : see (run (.pair 0xF222 0x4B14) (start [(3, 1)] [])) (fun t => [t.gpr[3]]) = [0x1235] := by decide
theorem test_addiuspE : see (run (.pair 0xF7FF 0x031C) (start [(29, 0x2000)] [])) (fun t => [t.gpr[3]]) = [0x1FFC] := by decide
theorem test_adjspE : see (run (.pair 0xF7FF 0x631C) (start [(29, 0x2000)] [])) (fun t => [t.gpr[29]]) = [0x1FFC] := by decide
theorem test_sltiE : see (run (.pair 0xF222 0x5714) (start [(7, 0x1233)] [])) (fun t => [t.gpr[24]]) = [1] := by decide
theorem test_sltiuE : see (run (.pair 0xF7FF 0x5F1F) (start [(7, 5)] [])) (fun t => [t.gpr[24]]) = [1] := by decide
theorem test_cmpiE : see (run (.pair 0xF222 0x7714) (start [(7, 0x1234), (24, 9)] [])) (fun t => [t.gpr[24]]) = [0] := by decide
theorem test_liE : see (run (.pair 0xF7FF 0x6B1F) (start [] [])) (fun t => [t.gpr[3]]) = [0xFFFF] := by decide
theorem test_sllE : see (run (.pair 0xF400 0x3340) (start [(2, 0x2170ADC5)] []))
    (fun t => [t.gpr[3]]) = [0xADC50000] := by decide
theorem test_srlE : see (run (.pair 0xF000 0x3342) (start [(2, 0xB5214C5E)] []))
    (fun t => [t.gpr[3]]) = [0xB5214C5E] := by decide
theorem test_sraE : see (run (.pair 0xF7C0 0x3343) (start [(2, 0xB521AE5E)] []))
    (fun t => [t.gpr[3]]) = [0xFFFFFFFF] := by decide
theorem test_beqzE : see (run (.pair 0xF7FE 0x221E) (start [] [])) (fun t => [t.pc]) = [0x1001] := by decide
theorem test_bnezE : see (run (.pair 0xF7FE 0x2A1E) (start [(2, 1)] [])) (fun t => [t.pc]) = [0x1001] := by decide
theorem test_bteqzE : see (run (.pair 0xF060 0x601E) (start [] [])) (fun t => [t.pc]) = [0x2101] := by decide
theorem test_btnezE : see (run (.pair 0xF060 0x611E) (start [(24, 1)] [])) (fun t => [t.pc]) = [0x2101] := by decide
theorem test_bE : see (run (.pair 0xF7E1 0x101E) (start [] [])) (fun t => [t.pc]) = [0x4001] := by decide

/-! ### Stops and should-be-zero fields -/

theorem test_cfc0 : refuses (run (.word 0x40420000) (start [] [])) .controlRegisterOfCp0 = true := by decide

theorem test_ctc0 : refuses (run (.word 0x40C20000) (start [] [])) .controlRegisterOfCp0 = true := by decide

theorem test_mtc0_halt_and_doze : faults (run (.word 0x40821800) (start [(2, 0x300)] [])) .haltAndDoze = true := by decide

theorem test_jalr_same_register : faults (run (.word 0x00401009) (start [] [])) .linkOverwritesSource = true := by decide

theorem test_non_zero_field : refuses (run (.word 0x00432060) (start [] [])) .nonZeroField = true := by decide

theorem test_mfc0_unlisted : refuses (run (.word 0x40080000) (start [] [])) .unlistedCp0Register = true := by decide

theorem test_mtc0_unlisted : refuses (run (.word 0x40880000) (start [] [])) .unlistedCp0Register = true := by decide

/-- LW from the reserved range of kseg2. -/
theorem test_reserved_range : refuses (run (.word 0x8D090000) (start [(8, 0xFF000000)] [])) .reservedAddress = true := by decide

theorem test_reserved_function : see (run (.word 0x0000003F) (start [] [])) (fun t => [t.epc, t.pc]) = [0x2000, 0xBFC00180] := by
  decide

/-! ### Boundaries -/

/-- Interrupts enabled with CMask = 2, at a NOP. -/
def enabled : State := { start [] [] with status := 0x00404001 }

theorem test_interrupt_of_equal_level_waits : see (step { enabled with irqLevel := 2 }) (fun t => [t.pc]) = [0x2004] := by decide

theorem test_interrupt_is_taken :
    see (step { enabled with irqLevel := 3 }) (fun t => [t.pc, t.status, t.epc]) = [0xBFC00260, 0x00424004, 0x2000] := by decide

theorem test_software_interrupt_3 :
    see (step { start [] [] with status := 0x00006801, cause := 0x800 }) (fun t => [t.pc, t.status]) = [0x80000140, 0x00038804] := by
  decide

theorem test_software_interrupt_0 :
    see (step { start [] [] with status := 0x00000101, cause := 0x100 }) (fun t => [t.pc, t.status]) = [0x80000110, 0x00002104] := by
  decide

theorem test_nmi : see (step { start [] [] with inputs := [[.nmiEdge]] }) (fun t => [t.pc, t.epc, t.status]) =
    [0xBFC00000, 0x2000, 0x0057E000] := by decide

theorem test_reset_event : see (step { start [] [] with inputs := [[.reset]] }) (fun t => [t.pc, t.config, t.gpr[0]]) =
    [0xBFC00000, 0, 0] := by decide

theorem test_overflow_in_delay_slot :
    see (run (.word 0x00432020) { start [(2, 0x7FFFFFFF), (3, 1)] [] with slot := some ⟨0x1FFC, 0x3000, false, false⟩ })
      (fun t => [t.epc, t.pc]) = [0x1FFC, 0xBFC00180] := by decide

theorem test_delay_slot_then_target :
    see (run (.word 0x24020001) { start [] [] with slot := some ⟨0x1FFC, 0x3000, false, false⟩ }) (fun t => [t.gpr[2], t.pc]) =
      [1, 0x3000] := by decide

theorem test_fetch_misaligned : see (step { start [] [] with pc := 0x2002 }) (fun t => [t.badVAddr, t.epc, t.pc]) =
    [0x2002, 0x2002, 0xBFC00180] := by decide

theorem test_halt_waits : see (step { start [] [] with config := 0x100 }) (fun t => [t.pc, t.config]) = [0x2000, 0x100] := by decide

theorem test_doze_released : see (step { start [] [] with config := 0x200, irqLevel := 1 }) (fun t => [t.pc, t.config]) =
    [0x2004, 0] := by decide

theorem test_single_step : see (step { start [] [] with debug := 0x100 }) (fun t => [t.depc, t.debug, t.pc]) =
    [0x2000, 0x40000101, 0xBFC00200] := by decide

/-- The load, LW r9,4(r8), is next and will meet a bus error, so it runs before the NMI and the interrupt (R450). -/
def atFailingLoad : State :=
  { enabled with
    gpr := enabled.gpr.set 8 0x400, irqLevel := 7, nmiPending := true, busErrors := [⟨0x40000400, 0x40000407, false, true, true⟩]
    mem := [(0x40002000, 0x8D), (0x40002001, 0x09), (0x40002003, 0x04)] }

theorem test_data_bus_error_before_nmi : see (step atFailingLoad) (fun t => [t.pc, if t.dbe = some (.load 9) then 1 else 0]) =
    [0x2004, 1] := by decide

theorem test_data_bus_error_before_interrupt : see (step { atFailingLoad with nmiPending := false }) (fun t => [t.pc]) = [0x2004] := by
  decide

/-- Single step comes before a pending data bus error, which waits (R491; log 52). -/
theorem test_single_step_before_data_bus_error :
    see (step { start [] [] with debug := 0x100, dbe := some .store }) (fun t => [t.pc, if t.dbe = some .store then 1 else 0]) =
      [0xBFC00200, 1] := by decide

/-- IBE comes before a pending data bus error (R450). -/
theorem test_fetch_bus_error_before_data_bus_error :
    see (step { start [] [] with dbe := some .store, busErrors := [⟨0x40002000, 0x40002003, true, false, false⟩] })
      (fun t => [t.pc, t.epc, if t.dbe = some .store then 1 else 0]) = [0xBFC00180, 0x2000, 1] := by decide

/-- A store to a device in the reserved range completes and changes no memory (R93, D26). -/
theorem test_store_to_device :
    see (run (.word 0xAD090000) { start [(8, 0xFF000000), (9, 7)] [] with product := ⟨true, false, 0, [⟨0xFF000000, 0xFF0000FF⟩]⟩ })
      (fun t => [t.pc, (memRead t.mem 0xFF000000).setWidth 32, (memRead t.mem 0xFF000003).setWidth 32]) = [0x2004, 0, 0] := by decide

/-- A row of the opcode table runs as the first instruction after reset (LW with base r0 meets kuseg address 0). -/
theorem test_with_fetch_word : see (step (State.reset.withFetchWord 32 0x24430001)) (fun t => [t.gpr[3], t.pc]) = [1, 0xBFC00004] := by
  decide

/-! ### Witnesses: states and operands that meet the hypotheses of the statements -/

/-- r8 = 0x400, in kernel mode. -/
def ready : State := start [(8, 0x400)] []

/-- User mode without coprocessors, at 0x2000. -/
def user : State := { ready with status := 2 }

/-- A delay-slot instruction is next. -/
def slotted : State := { ready with slot := some ⟨0x1FFC, 0x3000, false, false⟩ }

/-- The delay slot of an untaken branch-likely is next. -/
def nullifying : State := { ready with slot := some ⟨0x1FFC, 0x2004, true, false⟩ }

/-- Debug mode. -/
def debugging : State := { ready with debug := 0x40000000 }

/-- Coprocessors 1 to 3 usable and present. -/
def equipped : State := { ready with status := 0xF0000000, cop1 := unit, cop2 := unit, cop3 := unit }

/-- A device answers at 0x400 to 0x4FF and in the upper reserved range up to 0xFF0000FF. -/
def withDevices : State := { ready with product := ⟨true, false, 0, [⟨0x40000400, 0x400004FF⟩, ⟨0xFF000000, 0xFF0000FF⟩]⟩ }

/-- The instruction before was an MTC0 that changed Status.KUc. -/
def modeChanged : State := { ready with prev := .mtc0 12#5 true }

/-- Every access to the physical image of kuseg fails. -/
def failing : State := { ready with busErrors := [⟨0x40000000, 0xBFFFFFFF, true, true, true⟩] }

theorem witness_DecodeReadsEncodedBytes : (Instr.sra 31#5 31#5 31#5).wf = true ∧ (Instr.extend 0x7FF#11 0xFFFF#16).wf = true := by
  decide

theorem witness_DecodedCodeIsEncoding : decodeCode (.word 0xFFFFFFFF) = .reserved ∧ decodeCode (.word 0xBFFFFFFF) =
    .instr (.cache 31#5 31#5 0xFFFF#16) ∧ decodeCode (.half 0xFFFF) = .reserved ∧ decodeCode (.half 0x6FFF) = .instr (.li16 7#3 0xFF#8) ∧
    decodeCode (.pair 0xF7FF 0x6F1F) = .instr (.liE 7#3 0xFFFF#16) := by decide

theorem witness_ReservedEncodings_words :
    ((0x60000000#32).extractLsb' 26 6).toNat = 24 ∧ ((0xFFFFFFFF#32).extractLsb' 26 6).toNat = 63 ∧
    (1#32).extractLsb' 26 6 = 0#6 ∧ ((1#32).extractLsb' 0 6).toNat = 1 ∧ (0x03FFFFF0#32).extractLsb' 26 6 = 0#6 ∧
    48 ≤ ((0x03FFFFF0#32).extractLsb' 0 6).toNat := by decide

theorem witness_ReservedEncodings_groups :
    (0x07FF0000#32).extractLsb' 26 6 = 1#6 ∧ ((0x07FF0000#32).extractLsb' 16 5).toNat ∉ [0, 1, 2, 3, 16, 17, 18, 19] ∧
    (0x04040000#32).extractLsb' 26 6 = 1#6 ∧ ((0x04040000#32).extractLsb' 16 5).toNat ∉ [0, 1, 2, 3, 16, 17, 18, 19] ∧
    (0x70000002#32).extractLsb' 26 6 = 28#6 ∧ 2 ≤ ((0x70000002#32).extractLsb' 0 6).toNat ∧
    (0x40200000#32).extractLsb' 28 4 = 4#4 ∧ ((0x40200000#32).extractLsb' 21 5).toNat = 1 ∧
    (0x4DE00000#32).extractLsb' 28 4 = 4#4 ∧ ((0x4DE00000#32).extractLsb' 21 5).toNat = 15 ∧
    (0x45040000#32).extractLsb' 28 4 = 4#4 ∧ (0x45040000#32).extractLsb' 21 5 = 8#5 ∧
    4 ≤ ((0x45040000#32).extractLsb' 16 5).toNat := by decide

theorem witness_ReservedEncodings_halves :
    ((0x3800#16).extractLsb' 11 5).toNat = 7 ∧ ((0xFFFF#16).extractLsb' 11 5).toNat = 31 ∧
    (0x3001#16).extractLsb' 11 5 = 6#5 ∧ (0x3001#16).extractLsb' 0 2 = 1#2 ∧
    (0x4010#16).extractLsb' 11 5 = 8#5 ∧ (0x4010#16).extractLsb' 4 1 = 1#1 ∧
    (0xE000#16).extractLsb' 11 5 = 28#5 ∧ (0xE000#16).extractLsb' 0 1 = 0#1 ∧
    (0x6400#16).extractLsb' 11 5 = 12#5 ∧ ((0x6400#16).extractLsb' 8 3).toNat = 4 ∧ ((0x6600#16).extractLsb' 8 3).toNat = 6 ∧
    (0xE808#16).extractLsb' 11 5 = 29#5 ∧ ((0xE808#16).extractLsb' 0 5).toNat = 8 ∧ ((0xEFFF#16).extractLsb' 0 5).toNat = 31 ∧
    (0xE860#16).extractLsb' 0 5 = 0#5 ∧ ((0xE860#16).extractLsb' 5 3).toNat = 3 := by decide

/-- The word of SLL r0,r0,0 at the last address a word fetch of kuseg has before the reserved range, behind a store elsewhere. -/
theorem witness_FetchReadsStoredInstruction :
    let s := { user with pc := 0x7EFFFFFC, storeWindow := [(0x40002003, 8)] }
    let i := Instr.sll 0#5 0#5 0#5
    let bytes := (encode i).bytes s.product.bigEndian
    i.wf = true ∧ s.isa16 = (encode i).isa16 ∧ (s.isa16 = false → s.instrAddr.toNat % 4 = 0) ∧
    (∀ va ∈ bytesFrom s.instrAddr bytes.length, va.toNat < 2 ^ 31 ∧ ¬ InReserved va ∧ ∀ e ∈ s.storeWindow, e.1 ≠ (Machine.translate va).toNat) ∧
    s.busFails .fetch (bytesFrom s.instrAddr bytes.length) = false ∧
    ∀ n b, bytes[n]? = some b → s.byteAt (s.instrAddr + BitVec.ofNat 32 n) = b := by
  refine ⟨by decide, by decide, by decide, ?_, by decide, ?_⟩
  · show ∀ va ∈ bytesFrom 0x7EFFFFFC 4, _
    simp only [bytesFrom, List.forall_mem_cons]
    refine ⟨by decide, by decide, by decide, by decide, nofun⟩
  · intro n b h
    rcases n with _ | _ | _ | _ | n <;> cases h <;> decide

/-- The second halfword of an EXTEND pair on no device, in kernel space in user mode, and stored too recently. -/
theorem witness_FetchReadsStoredInstruction_second :
    let k := { ready with pc := 0x7EFFFFFF, mem := [(0xBEFFFFFE, 0xF0)] }
    let r := { ready with pc := 0x2001, mem := [(0x40002000, 0xF0)], storeWindow := [(0x40002002, 8)] }
    (k.isa16 = true ∧ Permitted k k.instrAddr 2 ∧ ¬ InReserved k.instrAddr ∧ k.busFails .fetch (bytesFrom k.instrAddr 2) = false ∧
      isFirstOfTwo (k.halfAt k.instrAddr) = true ∧ Permitted k (k.instrAddr + 2) 2 ∧ InReserved (k.instrAddr + 2) ∧
      k.onDevice (k.instrAddr + 2) = false) ∧
    (¬ Permitted user (0x7FFFFFFE + 2) 2 ∧ Permitted user 0x7FFFFFFE 2 ∧ InReserved 0x7FFFFFFE) ∧
    isFirstOfTwo (r.halfAt r.instrAddr) = true ∧ r.busFails .fetch (bytesFrom (r.instrAddr + 2) 2) = false ∧
      (∃ e ∈ r.storeWindow, e.1 = (Machine.translate (r.instrAddr + 2)).toNat) := by decide

/-- With a device there, a fetch of user mode reaches the last halfword of kuseg (what the device delivers is free). -/
theorem witness_FetchReadsStoredInstruction_last :
    let s := { user with pc := 0x7FFFFFFF, product := ⟨true, false, 0, [⟨0xBFFFFFFE, 0xBFFFFFFF⟩]⟩ }
    s.isa16 = true ∧ s.instrAddr = 0x7FFFFFFE ∧ s.onDevice 0x7FFFFFFE = true ∧ s.onDevice 0x7FFFFFFF = true ∧
    s.busFails .fetch (bytesFrom s.instrAddr 2) = false := by decide

theorem witness_FetchReadsStoredInstruction_stops :
    let s := { ready with pc := 0xFF000000 }
    let u := { ready with storeWindow := [(0x40002003, 8)] }
    let d := { withDevices with pc := 0xFF000000, storeWindow := [(0xFF000000, 1)] }
    (Permitted s s.instrAddr 4 ∧ InReserved s.instrAddr ∧ ∃ va ∈ bytesFrom s.instrAddr 4, s.onDevice va = false) ∧
    (Permitted u u.instrAddr 4 ∧ ¬ InReserved u.instrAddr ∧ u.busFails .fetch (bytesFrom u.instrAddr 4) = false ∧
      ∃ va ∈ bytesFrom u.instrAddr 4, ∃ e ∈ u.storeWindow, e.1 = (Machine.translate va).toNat) ∧
    InReserved d.instrAddr ∧ ∀ va ∈ bytesFrom d.instrAddr 4, d.onDevice va = true := by
  refine ⟨⟨by decide, by decide, 0xFF000000, by decide, by decide⟩,
    ⟨by decide, by decide, by decide, 0x2003, by decide, (0x40002003, 8), by decide, by decide⟩, by decide, ?_⟩
  simp [bytesFrom]
  decide

theorem witness_Running : Running ready.sample := ⟨nofun, by decide, by decide, by decide⟩

theorem witness_StepRunsDecodedInstruction : ready.resetDue = false ∧ Running ready.sample ∧ ready.sample.nmiDue = false ∧
    ready.sample.acceptedInterrupt = none ∧ ready.sample.fetch = .code (.word 0) false ∧
    decodeCode (.word 0) = .instr (.sll 0#5 0#5 0#5) :=
  ⟨by decide, witness_Running, by decide, by decide, by decide, by decide⟩

/-- A reserved word, a reserved coprocessor sub-opcode, a non-zero field with and without a coprocessor, and an unlisted COP0
operation, fetched in kernel mode; the second also in user mode and in debug mode. -/
theorem witness_StepRunsDecodedInstruction_reserved :
    let at_ := fun (b0 b1 b2 b3 : Byte) => { ready with mem := memWriteAll [] [(0x40002000, b0), (0x40002001, b1), (0x40002002, b2), (0x40002003, b3)] }
    (at_ 0xFC 0 0 0).sample.fetch = .code (.word 0xFC000000) false ∧ decodeCode (.word 0xFC000000) = .reserved ∧
    Running (at_ 0xFC 0 0 0).sample ∧ Running { (at_ 0xFC 0 0 0).sample with debug := 0x40000000 } ∧
    (at_ 0x40 0x20 0 0).sample.fetch = .code (.word 0x40200000) false ∧ decodeCode (.word 0x40200000) = .reservedCop 0#2 ∧
    Usable (at_ 0x40 0x20 0 0).sample 0#2 ∧ ¬ Usable user.sample 0#2 ∧
    (at_ 0x00 0x43 0x20 0x60).sample.fetch = .code (.word 0x00432060) false ∧ decodeCode (.word 0x00432060) = .nonZeroField ∧
    (at_ 0x40 0x1A 0x60 1).sample.fetch = .code (.word 0x401A6001) false ∧ decodeCode (.word 0x401A6001) = .nonZeroFieldCop 0#2 ∧
    (at_ 0x42 0 0 0).sample.fetch = .code (.word 0x42000000) false ∧ decodeCode (.word 0x42000000) = .unlistedCop0 ∧
    (State.sample { ready with pc := 0xFF000000 }).fetch = .reserved ∧
    (State.sample { ready with storeWindow := [(0x40002003, 8)] }).fetch = .stale := by
  refine ⟨by decide, by decide, ⟨nofun, by decide, by decide, by decide⟩, ⟨nofun, by decide, by decide, by decide⟩, ?_⟩
  decide

/-- A fetch that fails in debug mode delivers a code, and a word of COP0 with a non-zero field is fetched in user mode. -/
theorem witness_StepRunsDecodedInstruction_failed_and_unusable :
    let d := { ready with debug := 0x40000000, busErrors := [⟨0x40002000, 0x40002003, true, false, false⟩] }
    let u := { user with mem := [(0x40002000, 0x40), (0x40002001, 0x1A), (0x40002002, 0x60), (0x40002003, 1)] }
    Running d.sample ∧ d.sample.nmiDue = false ∧ d.sample.acceptedInterrupt = none ∧ (∃ c, d.sample.fetch = .code c true) ∧
    Running u.sample ∧ u.sample.fetch = .code (.word 0x401A6001) false ∧ decodeCode (.word 0x401A6001) = .nonZeroFieldCop 0#2 ∧
    ¬ Usable u.sample 0#2 ∧ u.sample.debugMode = false :=
  ⟨⟨nofun, by decide, by decide, by decide⟩, by decide, by decide, ⟨_, rfl⟩, ⟨nofun, by decide, by decide, by decide⟩, by decide⟩

theorem witness_NullifiedSlotIsSkipped : nullifying.resetDue = false ∧
    nullifying.sample.slot = some ⟨0x1FFC, 0x2004, true, false⟩ := by decide

theorem witness_StepKeepsInvariant : ready.Inv ∧ ∃ t, step ready = .next t := ⟨by unfold State.Inv; decide, _, rfl⟩

theorem witness_UserModeIsConfined : user.userMode = true ∧ user.status.getLsbD 28 = false ∧ user.inputs = [] ∧
    user.stopped = false ∧ (∀ k, user.slot = some k → k.leavesDebug = false) ∧ ∃ t, step user = .next t :=
  ⟨by decide, by decide, by decide, by decide, nofun, _, rfl⟩

theorem witness_RegisterRead : 8#5 ≠ 0#5 ∧ ∀ rd, ready.prev ≠ .mfc0 8#5 rd := ⟨by decide, nofun⟩

theorem witness_Translation : (0x7FFFFFFF#32).toNat < 0x80000000 ∧
    (0x80000000 ≤ (0x80000000#32).toNat ∧ (0xBFFFFFFF#32).toNat < 0xC0000000) ∧ 0xC0000000 ≤ (0xC0000000#32).toNat := by decide

theorem witness_Loads : loadForm ready (.lw 8#5 9#5 4#16) = some ⟨9#5, 0x404, 4, true, 4⟩ ∧
    (twoHalves (.lw 8#5 9#5 4#16) = true → ready.slot = none) ∧ Reachable ready .load 0x404 4 (bytesFrom 0x404 4) :=
  ⟨rfl, by decide, by decide⟩

/-- The last word of kuseg below the reserved range, in user mode. -/
theorem witness_Loads_extended : loadForm user (.lwspE 3#3 0xFFFC#16) = some ⟨3#5, 0xFFFFFFFC, 4, true, 4⟩ ∧
    twoHalves (.lwspE 3#3 0xFFFC#16) = true ∧ user.slot = none ∧ Reachable user .load 0x7EFFFFFC 4 (bytesFrom 0x7EFFFFFC 4) :=
  ⟨rfl, by decide, by decide, by decide⟩

theorem witness_Loads_memory_and_device : (∀ va ∈ bytesFrom 0x404 4, ready.onDevice va = false) ∧
    Reachable withDevices .load 0x404 4 (bytesFrom 0x404 4) ∧
    (InReserved 0xFF0000FC ∧ Reachable withDevices .load 0xFF0000FC 4 (bytesFrom 0xFF0000FC 4)) ∧
    (∀ va ∈ bytesFrom 0xFF0000FC 4, withDevices.onDevice va = true) :=
  ⟨by simp [bytesFrom]; decide, by decide, ⟨by decide, ⟨by decide, by decide, fun _ => by simp [bytesFrom]; decide⟩, by decide⟩,
    by simp [bytesFrom]; decide⟩

theorem witness_LoadWordLeftRight : Reachable ready .load 0x400 1 (leftBytes true 0x400) ∧
    Reachable ready .load 0x403 1 (leftBytes true 0x403) ∧ Reachable ready .load 0x400 1 (rightBytes true 0x400) ∧
    Reachable ready .load 0x403 1 (rightBytes true 0x403) := ⟨by decide, by decide, by decide, by decide⟩

theorem witness_Stores : storeForm ready (.sw 8#5 9#5 4#16) = some ⟨0x404, 4, 0, 4⟩ ∧
    (twoHalves (.sw 8#5 9#5 4#16) = true → ready.slot = none) ∧ Reachable ready .store 0x404 4 (bytesFrom 0x404 4) ∧
    Memory.wf ready.mem = true := ⟨rfl, by decide, by decide, by decide⟩

/-- The last byte below the upper reserved range. -/
theorem witness_Stores_last : Reachable ready .store 0xFEFFFFFF 1 (bytesFrom 0xFEFFFFFF 1) := by decide

theorem witness_StoreWordLeftRight : Memory.wf ready.mem = true ∧ Reachable ready .store 0x400 1 (leftBytes true 0x400) ∧
    Reachable ready .store 0x403 1 (leftBytes true 0x403) ∧ Reachable ready .store 0x400 1 (rightBytes true 0x400) ∧
    Reachable ready .store 0x403 1 (rightBytes true 0x403) := ⟨by decide, by decide, by decide, by decide, by decide⟩

theorem witness_AddressErrors :
    (accessForm user (.lh 8#5 9#5 1#16) = some ⟨some 9#5, 0x401, 2, bytesFrom 0x401 2, 4⟩ ∧ ¬ Permitted user 0x401 2) ∧
    (accessForm user (.sw 8#5 9#5 2#16) = some ⟨none, 0x402, 4, bytesFrom 0x402 4, 4⟩ ∧ ¬ Permitted user 0x402 4) ∧
    ¬ Permitted debugging 0x401 2 ∧ debugging.debugMode = true ∧ debugging.prev.changedMode = false ∧
    user.debugMode = false ∧ user.prev.changedMode = false :=
  ⟨⟨rfl, by decide⟩, ⟨rfl, by decide⟩, by decide⟩

/-- The lowest kernel address, in user mode, for a load and for SWL. -/
theorem witness_AddressErrors_kernel : let s := { user with gpr := user.gpr.set 8 0x80000000 }
    accessForm s (.lb 8#5 9#5 0#16) = some ⟨some 9#5, 0x80000000, 1, bytesFrom 0x80000000 1, 4⟩ ∧
    accessForm s (.swl 8#5 9#5 0#16) = some ⟨none, 0x80000000, 1, bytesFrom 0x80000000 4, 4⟩ ∧
    ¬ Permitted s 0x80000000 1 ∧ Permitted s 0x7FFFFFFF 1 ∧ s.debugMode = false ∧ s.prev.changedMode = false :=
  ⟨rfl, rfl, by decide⟩

/-- The first and the last byte of a reserved range with no device, and an access behind a change of KUc. -/
theorem witness_AddressErrors_stops : let s := { ready with gpr := ready.gpr.set 8 0x7F000000 }
    accessForm s (.lb 8#5 9#5 0#16) = some ⟨some 9#5, 0x7F000000, 1, bytesFrom 0x7F000000 1, 4⟩ ∧
    Permitted s 0x7F000000 1 ∧ InReserved 0x7F000000 ∧ InReserved 0x7FFFFFFF ∧ ¬ InReserved 0x80000000 ∧ InReserved 0xFF000000 ∧
    (∃ va ∈ bytesFrom 0x7F000000 1, s.onDevice va = false) ∧ (∃ va ∈ bytesFrom 0x7FFFFFFF 1, s.onDevice va = false) ∧
    modeChanged.prev.changedMode = true :=
  ⟨rfl, by decide, by decide, by decide, by decide, by decide, ⟨0x7F000000, by decide, by decide⟩, ⟨0x7FFFFFFF, by decide, by decide⟩,
    by decide⟩

theorem witness_DataBusErrors :
    let load : AccessForm := ⟨some 9#5, 0x404, 4, bytesFrom 0x404 4, 4⟩
    let store : AccessForm := ⟨none, 0x404, 4, bytesFrom 0x404 4, 4⟩
    (accessForm failing (.lw 8#5 9#5 4#16) = some load ∧ BusError failing load) ∧
    (accessForm failing (.sw 8#5 9#5 4#16) = some store ∧ BusError failing store) ∧ Memory.wf failing.mem = true :=
  ⟨⟨rfl, by decide⟩, ⟨rfl, by decide⟩, by decide⟩

theorem witness_DataBusErrors_partial :
    let load : AccessForm := ⟨some 9#5, 0x401, 1, bytesFrom 0x401 3, 4⟩
    let store : AccessForm := ⟨none, 0x401, 1, bytesFrom 0x401 3, 4⟩
    (accessForm failing (.lwl 8#5 9#5 1#16) = some load ∧ BusError failing load) ∧
    (accessForm failing (.swl 8#5 9#5 1#16) = some store ∧ BusError failing store) := by
  refine ⟨⟨?_, by decide⟩, ?_, by decide⟩ <;> rfl

theorem witness_TrappingArithmetic : let s := start [(2, 0x7FFFFFFF), (3, 1)] []
    s.debugMode = false ∧ Fits ((s.reg 2#5).toInt + (s.reg 0#5).toInt) ∧ ¬ Fits ((s.reg 2#5).toInt + (s.reg 3#5).toInt) ∧
    Fits ((s.reg 0#5).toInt - (s.reg 2#5).toInt) ∧
    Fits ((s.reg 2#5).toInt + (0#16).toInt) ∧ ¬ Fits ((s.reg 2#5).toInt + (1#16).toInt) := by decide

theorem witness_TrappingArithmetic_difference : let s := start [(2, 0x7FFFFFFF), (3, 0xFFFFFFFF)] []
    ¬ Fits ((s.reg 2#5).toInt - (s.reg 3#5).toInt) ∧ State.debugMode { s with debug := 0x40000000 } = true := by decide

theorem witness_Divide : let s := start [(2, 0x80000000), (3, 0xFFFFFFFF), (4, 2)] []
    (s.reg 3#5).toNat ≠ 0 ∧ ¬ ((s.reg 4#5).toInt = -2 ^ 31 ∧ (s.reg 3#5).toInt = -1) ∧
    ¬ ((s.reg 2#5).toInt = -2 ^ 31 ∧ (s.reg 4#5).toInt = -1) := by decide

theorem witness_Jumps32 : ready.slot = none ∧ 31#5 ≠ 8#5 := by decide

theorem witness_Branches32 : let s := start [(2, 0x80000000), (3, 1)] []
    s.slot = none ∧ s.reg 0#5 = s.reg 4#5 ∧ s.reg 2#5 ≠ s.reg 3#5 ∧ (s.reg 0#5).toInt ≤ 0 ∧ ¬ (s.reg 3#5).toInt ≤ 0 ∧
    0 < (s.reg 3#5).toInt ∧ ¬ 0 < (s.reg 0#5).toInt ∧ (s.reg 2#5).toInt < 0 ∧ ¬ (s.reg 0#5).toInt < 0 := by decide

theorem witness_BranchesAndLink : let s := start [(2, 0x80000000)] []
    s.slot = none ∧ 2#5 ≠ 31#5 ∧ (s.reg 2#5).toInt < 0 ∧ 0#5 ≠ 31#5 ∧ 0 ≤ (s.reg 0#5).toInt := by decide

theorem witness_Jumps16 : let s := { ready with pc := 0x2001 }
    s.slot = none ∧ s.isa16 = true := by decide

theorem witness_Branches16Bit : let s := { ready with pc := 0x2001 }
    s.slot = none ∧ s.reg (xlat 0#3) = 0 ∧ ¬ s.reg (xlat 0#3) ≠ 0 ∧ s.reg 24#5 = 0 := by decide

theorem witness_TransferStops : slotted.slot = some ⟨0x1FFC, 0x3000, false, false⟩ ∧ isTransfer (.jr 31#5) = true ∧
    twoHalves (.jal16 0#26) = true ∧ twoHalves (.bE 0#16) = true ∧ isTransfer (.b 0#11) = true ∧
    isLinkTransfer (.jalr 8#5 31#5) = true ∧ isLinkTransfer (.bgezall 30#5 0#16) = true ∧
    coprocessorTransfer .deret = some 0#2 ∧ Usable slotted 0#2 ∧ coprocessorTransfer (.bc3tl 0#16) = some 3#2 ∧
    (let s := { slotted with status := 0x80000000, cop3 := unit }; Usable s 3#2 ∧ (s.cop 3#2).present = true) := by decide

/-- For the extended forms of both statements. -/
theorem witness_ImmediateArithmetic16_and_Shifts16 : ready.slot = none := by decide

theorem witness_CoprocessorUnusable : coprocessorOf (.mfc1 2#5 0#5) = some 1#2 ∧ ¬ Usable ready 1#2 ∧ ready.debugMode = false ∧
    coprocessorOf .rfe = some 0#2 ∧ ¬ Usable user 0#2 ∧ user.debugMode = false ∧
    ¬ Usable debugging 1#2 ∧ debugging.debugMode = true := by decide

theorem witness_MoveFromCp0 : ready.Inv ∧ Usable ready 0#2 ∧ (31#5).toNat ∈ [3, 8, 12, 13, 14, 15, 16, 17, 31] ∧
    (18#5).toNat ∉ [3, 8, 12, 13, 14, 15, 16, 17, 31] := by unfold State.Inv; decide

theorem witness_MoveToStatus : ready.Inv ∧ Usable ready 0#2 ∧ (ready.reg 8#5).getLsbD 25 = false ∧
    (ready.prev = .access → (ready.reg 8#5).getLsbD 1 = ready.status.getLsbD 1) := by unfold State.Inv; decide

theorem witness_MoveToStatus_stops : let s := { start [(8, 0x02000000), (9, 2)] [] with prev := .access }
    s.Inv ∧ Usable s 0#2 ∧ (s.reg 8#5).getLsbD 25 = true ∧ (s.reg 9#5).getLsbD 25 = false ∧ s.prev = .access ∧
    (s.reg 9#5).getLsbD 1 ≠ s.status.getLsbD 1 := by unfold State.Inv; decide

theorem witness_MoveToIe : Usable { user with status := 0x10000002 } 0#2 := by decide

/-- Config is locked. -/
def locked : State := { ready with config := 0x80 }

theorem witness_MoveToOtherCp0 : Usable ready 0#2 ∧
    locked.config.getLsbD 7 = true ∧ locked.debugMode = false ∧ (locked.config.getLsbD 8 && locked.config.getLsbD 9) = false ∧
    ready.config.getLsbD 7 = false ∧ ((ready.reg 8#5).getLsbD 8 && (ready.reg 8#5).getLsbD 9) = false ∧
    debugging.debugMode = true ∧ (let v := State.reg (start [(8, 0x300)] []) 8#5; (v.getLsbD 8 && v.getLsbD 9) = true) ∧
    (0#5).toNat ∉ [3, 8, 12, 13, 14, 15, 16, 17, 31] := by decide

theorem witness_ReturnFromException : Usable ready 0#2 ∧ ready.prev.touched 12#5 = false := by decide

theorem witness_DebugReturn : debugging.debugMode = true ∧ debugging.slot = none ∧ debugging.depcWait = 0 ∧
    debugging.prev.touched 16#5 = false ∧ ready.debugMode = false ∧ Usable ready 0#2 ∧
    (let s := { debugging with prev := .mfc0 2#5 16#5, depcWait := 2 }; s.debugMode = true ∧ s.prev.touched 16#5 = true) ∧
    (let s := { ready with prev := .mtc0 12#5 false }; Usable s 0#2 ∧ s.prev.touched 12#5 = true) := by decide

theorem witness_NoOperations : Usable ready 0#2 := by decide

theorem witness_SystemTraps : ready.debugMode = false ∧ ready.slot = none ∧ debugging.debugMode = true ∧ debugging.slot = none := by
  decide

theorem witness_DebugBreakpoint : slotted.debugMode = false ∧ debugging.debugMode = true := by decide

theorem witness_CoprocessorMoves : Present equipped 1#2 ∧ Present equipped 2#2 ∧ Present equipped 3#2 ∧ Usable equipped 0#2 := by
  decide

theorem witness_CoprocessorBranches : Usable equipped 0#2 ∧ Present equipped 1#2 ∧ Present equipped 2#2 ∧ Present equipped 3#2 := by
  decide

theorem witness_CoprocessorStops : coprocessorOf (.cop3 0#25) = some 3#2 ∧ 3#2 ≠ 0#2 ∧
    Usable { ready with status := 0x80000000 } 3#2 ∧ (ready.cop 3#2).present = false ∧ Usable ready 0#2 := by decide

theorem witness_CodesAndVectors : Exn.ibe ∈ [Exn.ibe, .dbe, .sys, .bp, .ri, .ov] ∧ Exn.cpu 3#2 ∈ [Exn.adel 0, .ades 0, .cpu 3#2] ∧
    Exn.ov.code = some 12 ∧ Exn.nmi.code = none := by decide

/-- A hardware request of the level of software interrupt 3 is accepted before it. -/
theorem witness_InterruptAcceptance : let s := { enabled with status := 0x00404801, cause := 0x800, irqLevel := 4 }
    HwAcceptable s ∧ SwAcceptable s 3#2 ∧ levelOf 3#2 ≤ s.irqLevel.toNat ∧ s.acceptedInterrupt = some .intHw := by decide

theorem witness_InterruptAcceptance_software : let s := { enabled with status := 0x00004801, cause := 0x800, irqLevel := 3 }
    HwAcceptable s ∧ SwAcceptable s 3#2 ∧ s.irqLevel.toNat < levelOf 3#2 ∧ s.acceptedInterrupt = some (.intSw 3#2) := by decide

theorem witness_InterruptAcceptance_none : ¬ HwAcceptable ready ∧ ∀ i, ¬ SwAcceptable ready i := by decide

theorem witness_InterruptIsTaken : let s := { enabled with irqLevel := 7 }
    s.resetDue = false ∧ Running s.sample ∧ s.sample.nmiDue = false ∧ s.sample.acceptedInterrupt = some .intHw ∧
    s.sample.fetch ≠ .busError ∧ s.sample.fetch.isSdbbp = false ∧
    ∀ t, runFetched s.sample.fetch s.sample = .next t → t.prev ≠ .entry ∧ t.dbe = none := by
  refine ⟨by decide, ⟨nofun, by decide, by decide, by decide⟩, by decide, by decide, by decide, by decide, ?_⟩
  intro t h
  cases h
  decide

/-- The next instruction is a load that meets a bus error, in front of an interrupt and of an NMI. -/
theorem witness_InterruptIsTaken_and_NmiIsTaken_displaced : let s := { atFailingLoad with nmiPending := false }
    (Running s.sample ∧ s.sample.nmiDue = false ∧ s.sample.acceptedInterrupt = some .intHw ∧ s.sample.fetch.isSdbbp = false ∧
      ∃ t, runFetched s.sample.fetch s.sample = .next t ∧ t.dbe ≠ none) ∧
    Running atFailingLoad.sample ∧ atFailingLoad.sample.nmiPending = true ∧
    ∃ t, runFetched atFailingLoad.sample.fetch atFailingLoad.sample = .next t ∧ t.dbe ≠ none :=
  ⟨⟨⟨nofun, by decide, by decide, by decide⟩, by decide, by decide, by decide, _, rfl, nofun⟩,
    ⟨nofun, by decide, by decide, by decide⟩, by decide, _, rfl, nofun⟩

/-- SDBBP is next, in front of an interrupt. -/
theorem witness_InterruptIsTaken_coincident : let s := { enabled with irqLevel := 7, mem := [(0x40002003, 0x0E)] }
    s.resetDue = false ∧ Running s.sample ∧ s.sample.nmiDue = false ∧ s.sample.acceptedInterrupt = some .intHw ∧
    s.sample.fetch ≠ .busError ∧ s.sample.fetch.isSdbbp = true :=
  ⟨by decide, ⟨nofun, by decide, by decide, by decide⟩, by decide, by decide, by decide, by decide⟩

theorem witness_NmiIsTaken : let s := { ready with inputs := [[.nmiEdge]] }
    s.resetDue = false ∧ Running s.sample ∧ s.sample.nmiPending = true ∧ s.sample.debugMode = false ∧
    s.sample.fetch ≠ .busError ∧ (∀ t, runFetched s.sample.fetch s.sample = .next t → t.dbe = none) ∧ s.sample.fetch.isSdbbp = false ∧
    Fetched.isSdbbp (State.fetch (State.sample { s with mem := [(0x40002003, 0x0E)] })) = true :=
  ⟨by decide, ⟨nofun, by decide, by decide, by decide⟩, by decide, by decide, by decide, fun _ h => by cases h; rfl, by decide,
    by decide⟩

theorem witness_SingleStep : let u := State.sample { ready with debug := 0x100 }
    State.resetDue { ready with debug := 0x100 } = false ∧ u.slot = none ∧ u.stopped = false ∧
    BitVec.getLsbD u.debug 8 = true ∧ BitVec.getLsbD u.debug 30 = false ∧ u.ssSkip = false ∧ ∀ va, u.fetch ≠ .addressError va := by
  refine ⟨by decide, by decide, by decide, by decide, by decide, by decide, ?_⟩
  intro va h
  rw [show State.fetch (State.sample { ready with debug := 0x100 }) = .code (.word 0) false by decide] at h
  cases h

theorem witness_SingleStep_coincident : let s := { ready with debug := 0x100, pc := 0x2002, nmiPending := true }
    s.resetDue = false ∧ s.sample.slot = none ∧ s.sample.stopped = false ∧ BitVec.getLsbD s.sample.debug 8 = true ∧
    BitVec.getLsbD s.sample.debug 30 = false ∧ s.sample.ssSkip = false ∧ s.sample.fetch = .addressError 0x2002 := by decide

/-- SYNC waits for every load, and no instruction for one into r0 (60_exceptions.md R466(b), log 29). -/
theorem test_waits_for_load : waitsForLoad (.load 5#5) (.code (.word 0x0000000F) false) = true ∧
    waitsForLoad (.load 0#5) (.code (.word 0x00001821) false) = false := by decide

/-- The next instruction, ADDU r3,r2,r0, reads the register of the load; a NOP does not. -/
theorem witness_DataBusErrorIsTaken : let s := { ready with dbe := some (.load 2#5), mem := [(0x40002001, 0x40), (0x40002002, 0x18), (0x40002003, 0x21)] }
    s.resetDue = false ∧ (∀ k, s.sample.slot = some k → k.nullify = false) ∧ s.sample.stopped = false ∧
    s.sample.dbe = some (.load 2#5) ∧ s.sample.debugMode = false ∧ s.sample.singleStepDue = false ∧
    (s.sample.fetch ≠ .busError ∧ waitsForLoad (.load 2#5) s.sample.fetch = true) ∧
    (ready.sample.fetch ≠ .busError ∧ waitsForLoad (.load 2#5) ready.sample.fetch = false) ∧ failing.sample.fetch = .busError :=
  ⟨by decide, nofun, by decide, by decide, by decide, by decide, by decide, by decide, by decide⟩

theorem witness_FetchExceptions_busError : failing.resetDue = false ∧ Running failing.sample ∧ failing.sample.debugMode = false ∧
    failing.sample.fetch = .busError := ⟨by decide, ⟨nofun, by decide, by decide, by decide⟩, by decide, by decide⟩

theorem witness_FetchExceptions_addressError :
    let s := { ready with pc := 0x2002 }
    let v := { user with pc := 0x80000001 }
    (s.resetDue = false ∧ Running s.sample ∧ s.sample.debugMode = false ∧ s.sample.isa16 = false ∧
      s.sample.instrAddr.toNat % 4 ≠ 0 ∧ s.sample.nmiPending = false) ∧
    Running v.sample ∧ v.sample.userMode = true ∧ 2 ^ 31 ≤ v.sample.instrAddr.toNat ∧ v.sample.nmiPending = false :=
  ⟨⟨by decide, ⟨nofun, by decide, by decide, by decide⟩, by decide, by decide, by decide, by decide⟩,
    ⟨nofun, by decide, by decide, by decide⟩, by decide, by decide, by decide⟩

/-- A misaligned fetch in debug mode, and fetches that meet a bus error: of a word, of a halfword, and of the second halfword of an
EXTEND pair alone. -/
theorem witness_FetchExceptions_fetches :
    let d := { debugging with pc := 0x2002 }
    let w := { failing with debug := 0x40000000 }
    let h := { w with pc := 0x2001 }
    let p := { ready with pc := 0x2001, mem := [(0x40002000, 0xF0)], busErrors := [⟨0x40002002, 0x40002003, true, false, false⟩] }
    (Running d.sample ∧ d.sample.debugMode = true ∧ d.sample.isa16 = false ∧ d.sample.instrAddr.toNat % 4 ≠ 0) ∧
    (w.sample.isa16 = false ∧ Permitted w.sample w.sample.instrAddr 4 ∧ ¬ InReserved w.sample.instrAddr ∧
      w.sample.busFails .fetch (bytesFrom w.sample.instrAddr 4) = true) ∧
    (h.sample.isa16 = true ∧ h.sample.debugMode = true ∧ Permitted h.sample 0x2000 2 ∧ Permitted h.sample 0x2002 2 ∧
      h.sample.instrAddr = 0x2000 ∧ ¬ InReserved 0x2002 ∧ h.sample.busFails .fetch (bytesFrom 0x2000 2) = true ∧ h.sample.storeWindow = []) ∧
    p.sample.isa16 = true ∧ p.sample.busFails .fetch (bytesFrom p.sample.instrAddr 2) = false ∧ p.sample.storeWindow = [] ∧
      isFirstOfTwo (p.sample.halfAt p.sample.instrAddr) = true ∧ p.sample.busFails .fetch (bytesFrom (p.sample.instrAddr + 2) 2) = true :=
  ⟨⟨⟨nofun, by decide, by decide, by decide⟩, by decide⟩, by decide, by decide, by decide⟩

theorem witness_HaltAndDoze : let s := { ready with config := 0x100 }
    s.resetDue = false ∧ (∀ k, s.sample.slot = some k → k.nullify = false) ∧ s.sample.stopped = true ∧
    (s.sample.irqLevel.toNat = 0 ∧ s.sample.nmiPending = false) ∧
    State.stopped (State.sample { s with inputs := [[.irqLevel 1]] }) = true ∧
    (State.sample { s with inputs := [[.irqLevel 1]] }).irqLevel.toNat ≠ 0 ∧
    (State.sample { s with inputs := [[.nmiEdge]] }).nmiPending = true ∧ s.sample.debugMode = false :=
  ⟨by decide, nofun, by decide, by decide, by decide, by decide, by decide, by decide⟩

/-- Stopped in debug mode with an NMI pending. -/
theorem witness_HaltAndDoze_debug : let s := { debugging with config := 0x100, nmiPending := true }
    s.resetDue = false ∧ s.sample.slot = none ∧ s.sample.stopped = true ∧ s.sample.irqLevel.toNat = 0 ∧
    s.sample.nmiPending = true ∧ s.sample.debugMode = true := by decide

theorem witness_ResetException : State.resetDue { ready with inputs := [[.reset]] } = true := by decide

theorem witness_Inputs : State.config { ready with config := 0x100 } = 0x100 ∧ (0x100#32).getLsbD 8 = true ∧
    ready.config.getLsbD 8 = false ∧ Memory.wf ready.mem = true := by decide

end Sys2Proof.Tests
end

/-! The inputs between two instructions (00_scope.md R7): what each event does, what taking in a list of them keeps, and
the statement about them (O60). -/

namespace Sys2Proof.Machine

/-! ### The fields an input reads or writes -/

theorem bit_eq_getLsbD (w : Word) (n : Nat) : bit w n = w.getLsbD n := by
  have h : (w.extractLsb' n 1 == 1#1) = (w.extractLsb' n 1).getLsbD 0 := by
    generalize w.extractLsb' n 1 = x
    revert x
    decide
  rw [bit, h]
  simp

theorem State.halted_eq (s : State) : s.halted = s.config.getLsbD 8 := bit_eq_getLsbD s.config 8

/-- Each bit of Status after CMask is replaced: the three bits of the level, and below and above them the old Status. -/
theorem getLsbD_setCmask (status : Word) (level : BitVec 3) (n : Nat) :
    (setCmask status level).getLsbD n =
      if n < 13 then status.getLsbD n else if n < 16 then level.getLsbD (n - 13) else status.getLsbD n := by
  simp only [setCmask, BitVec.getLsbD_append, BitVec.getLsbD_extractLsb']
  by_cases hlo : n < 13
  · simp [hlo]
  · by_cases hmid : n < 16
    · have hsub : n - 13 < 3 := by omega
      simp [hlo, hmid, hsub]
    · have hsub : ¬ n - 13 < 3 := by omega
      have hidx : 16 + (n - 13 - 3) = n := by omega
      simp only [hlo, hmid, hsub, hidx, if_false]
      by_cases htop : n < 32
      · have hhigh : n - 13 - 3 < 16 := by omega
        simp [hhigh]
      · rw [BitVec.getLsbD_of_ge status n (by omega), Bool.and_false]

theorem cmask_setCmask (status : Word) (level : BitVec 3) : cmask (setCmask status level) = level := by
  apply BitVec.eq_of_getLsbD_eq
  intro i hi
  have hlo : ¬ 13 + i < 13 := by omega
  have hmid : 13 + i < 16 := by omega
  simp [cmask, getLsbD_setCmask, hi, hlo, hmid]

theorem getLsbD_setCmask_of_outside {status : Word} {level : BitVec 3} {n : Nat} (h : ¬ (13 ≤ n ∧ n < 16)) :
    (setCmask status level).getLsbD n = status.getLsbD n := by
  rw [getLsbD_setCmask]
  split
  · rfl
  · rw [if_neg (by omega)]

/-- Memory after one write, at every address. -/
theorem memRead_memWrite {m : List Host.Cell} (h : Memory.wf m = true) (a x : Nat) (b : Byte) :
    memRead (memWrite m a b) x = if x = a then b else memRead m x := by
  split
  · next hx => rw [hx, memRead_memWrite_self h]
  · next hx => exact memRead_memWrite_ne m hx

/-! ### One event -/

section busWrite

variable {s : State} {pa : Word} {b : Byte}

theorem applyEvent_busWrite_of_halted (h : s.halted = true) : applyEvent s (.busWrite pa b) = s := if_pos h

theorem applyEvent_busWrite_of_not_halted (h : s.halted = false) :
    applyEvent s (.busWrite pa b) = { s with mem := memWrite s.mem pa.toNat b } := by
  simp [applyEvent, h]

end busWrite

/-- No event touches the condition lines of the step before. -/
theorem applyEvent_cpcondPrev (s : State) (e : InputEvent) : (applyEvent s e).cpcondPrev = s.cpcondPrev := by
  cases e with
  | busWrite pa b =>
    cases h : s.halted with
    | true => rw [applyEvent_busWrite_of_halted h]
    | false => rw [applyEvent_busWrite_of_not_halted h]
  | irqLevel | nmiEdge | reset | ivrRead | cpcond | busErrors => rfl

/-! ### The events of one boundary -/

theorem foldl_applyEvent_cpcondPrev (es : List InputEvent) (s : State) :
    (es.foldl applyEvent s).cpcondPrev = s.cpcondPrev := by
  induction es generalizing s with
  | nil => rfl
  | cons e es ih => rw [List.foldl_cons, ih, applyEvent_cpcondPrev]

theorem State.sample_cpcondPrev (s : State) : s.sample.cpcondPrev = s.cpcond :=
  foldl_applyEvent_cpcondPrev s.events s.nextBoundary

/-! ### The statement -/

/-- Settles O60: the events one by one, and that a boundary's list of them leaves the saved condition lines alone. -/
theorem inputs : Obligations.Inputs := by
  intro s l c pa b ranges
  have hivr : ∃ v, applyEvent s .ivrRead = { s with status := v } ∧ v.extractLsb' 13 3 = s.irqLevel ∧
      ∀ n, n < 32 → ¬ (13 ≤ n ∧ n < 16) → v.getLsbD n = s.status.getLsbD n :=
    ⟨setCmask s.status s.irqLevel, rfl, cmask_setCmask s.status s.irqLevel, fun _ _ => getLsbD_setCmask_of_outside⟩
  refine ⟨⟨s.tick + 1, rfl⟩, s.sample_cpcondPrev, rfl, rfl, rfl, rfl, hivr, ?halted, ?running⟩
  case halted =>
    intro hconfig
    exact applyEvent_busWrite_of_halted (s.halted_eq.trans hconfig)
  case running =>
    intro hconfig hwf
    exact ⟨_, applyEvent_busWrite_of_not_halted (s.halted_eq.trans hconfig), fun a => memRead_memWrite hwf pa.toNat a b⟩

end Sys2Proof.Machine

/-! Registers read by instructions and the values the machine starts from: the statements about a register read (O12) and about
the invariant at reset (O9). -/

namespace Sys2Proof.Machine

/-! ### Reading a general register -/

/-- The hazard of MFC0 (70_reset_and_hazards.md R536(a)) in the words of the statements. -/
theorem Prev.loaded_eq_false {p : Prev} {r : Reg} (h : ∀ rd, p ≠ .mfc0 r rd) : p.loaded r = false := by
  cases p with
  | mfc0 rt rd =>
    have hne : rt ≠ r := fun hrt => h rd (hrt ▸ rfl)
    simpa [Prev.loaded] using hne
  | other | access | mtc0 | entry => rfl

theorem State.reg_of_ne_zero {s : State} {r : Reg} (hr : r ≠ 0#5) (h : s.prev.loaded r = false) :
    s.reg r = s.gpr[r.toNat]'r.isLt := by
  simp [State.reg, hr, h]

/-- Settles O12: without an MFC0 of the register directly before, the read has no hazard to meet. -/
theorem registerRead : Obligations.RegisterRead :=
  fun s _ => ⟨s.reg_zero, fun hr hprev => State.reg_of_ne_zero hr (Prev.loaded_eq_false hprev)⟩

/-! ### The state after reset -/

/-- Settles O9: memory is empty, Status = 0x0040E000 lies inside its mask, and the other registers are 0. -/
theorem invariantHoldsAtReset : Obligations.InvariantHoldsAtReset := by
  have hstatus : State.reset.status &&& ~~~statusMask = 0 := by decide
  exact ⟨rfl, rfl, hstatus, rfl, rfl, rfl, rfl⟩

end Sys2Proof.Machine

/-! Reserved bits of the CP0 registers (10_state.md R34, R40, R49, R59): what every way of writing Status, Config, Cause and
Debug keeps 0. -/

namespace Sys2Proof.Machine

/-! ### Words with some bits 0 -/

section masks

variable {a b k r : Word}

theorem or_and_eq_zero (ha : a &&& r = 0) (hb : b &&& r = 0) : (a ||| b) &&& r = 0 := by
  rw [BitVec.and_or_distrib_right, ha, hb]
  rfl

/-- A mask clears the bits outside it. -/
theorem and_mask_and_eq_zero (w : Word) (h : k &&& r = 0) : (w &&& k) &&& r = 0 := by
  rw [BitVec.and_assoc, h]
  exact BitVec.and_zero

/-- A mask sets no bit. -/
theorem and_and_eq_zero_of_left (k : Word) (h : a &&& r = 0) : (a &&& k) &&& r = 0 := by
  rw [BitVec.and_assoc, BitVec.and_comm k r, ← BitVec.and_assoc, h]
  exact BitVec.zero_and

/-- A field of a word with clear bits has them clear at their place in the field. -/
theorem extractLsb'_and_eq_zero (i n : Nat) (h : a &&& r = 0) : a.extractLsb' i n &&& r.extractLsb' i n = 0 := by
  rw [← BitVec.extractLsb'_and, h]
  simp

/-- A field of a constant with free bits outside it. -/
theorem extractLsb'_or_and (w : Word) {m : Word} {i n : Nat} (h : m.extractLsb' i n = 0) :
    (k ||| (w &&& m)).extractLsb' i n = k.extractLsb' i n := by
  rw [BitVec.extractLsb'_or, BitVec.extractLsb'_and, h]
  simp

theorem getLsbD_or_and (w : Word) {m : Word} {i : Nat} (h : m.getLsbD i = false) :
    (k ||| (w &&& m)).getLsbD i = k.getLsbD i := by
  simp [h]

end masks

/-! ### Status -/

section status

variable {status : Word}

theorem reserved_setCmask (level : BitVec 3) (h : status &&& ~~~statusMask = 0) :
    setCmask status level &&& ~~~statusMask = 0 := by
  have hmask : ~~~statusMask = (~~~statusMask).extractLsb' 16 16 ++ 0#3 ++ (~~~statusMask).extractLsb' 0 13 := by decide
  rw [setCmask, hmask, BitVec.and_append, BitVec.and_append, extractLsb'_and_eq_zero 16 16 h,
    extractLsb'_and_eq_zero 0 13 h, BitVec.and_zero]
  rfl

theorem reserved_pushStatus (h : status &&& ~~~statusMask = 0) : pushStatus status &&& ~~~statusMask = 0 := by
  have hmask : ~~~statusMask =
      (~~~statusMask).extractLsb' 19 13 ++ 0#3 ++ (~~~statusMask).extractLsb' 6 10 ++ 0#4 ++ 0#2 := by decide
  rw [pushStatus, hmask, BitVec.and_append, BitVec.and_append, BitVec.and_append, BitVec.and_append,
    extractLsb'_and_eq_zero 19 13 h, extractLsb'_and_eq_zero 6 10 h, BitVec.and_zero, BitVec.and_zero, BitVec.and_zero]
  rfl

theorem reserved_popStatus (h : status &&& ~~~statusMask = 0) : popStatus status &&& ~~~statusMask = 0 := by
  have hmask : ~~~statusMask =
      (~~~statusMask).extractLsb' 16 16 ++ 0#3 ++ (~~~statusMask).extractLsb' 4 9 ++ 0#4 := by decide
  rw [popStatus, hmask, BitVec.and_append, BitVec.and_append, BitVec.and_append, extractLsb'_and_eq_zero 16 16 h,
    extractLsb'_and_eq_zero 4 9 h, BitVec.and_zero, BitVec.and_zero]
  rfl

theorem Exn.reserved_statusAfter (e : Exn) (h : status &&& ~~~statusMask = 0) :
    e.statusAfter status &&& ~~~statusMask = 0 := by
  have hpush := reserved_pushStatus h
  cases e with
  | nmi => exact or_and_eq_zero hpush (by decide)
  | intSw i => exact reserved_setCmask (swiLevel i) hpush
  | intHw | adel | ades | ibe | dbe | sys | bp | ri | cpu | ov => exact hpush

theorem reserved_statusWritten (v : Word) (h : status &&& ~~~statusMask = 0) :
    statusWritten status v &&& ~~~statusMask = 0 :=
  or_and_eq_zero (and_mask_and_eq_zero v (by decide)) (and_and_eq_zero_of_left _ (and_and_eq_zero_of_left _ h))

end status

/-! ### Config -/

/-- Halt and Doze off (10_state.md R36): `wake` clears bit 8. -/
theorem bit_wake_halt (config : Word) : bit (wake config) 8 = false := by
  simp [bit_eq_getLsbD, wake]

theorem Exn.configAfter_eq (e : Exn) (config : Word) : e.configAfter config = wake config ∨ e.configAfter config = config := by
  cases e with
  | nmi | intHw => exact .inl rfl
  | intSw | adel | ades | ibe | dbe | sys | bp | ri | cpu | ov => exact .inr rfl

/-! ### Cause and Debug -/

/-- The entry of an exception builds Cause from its stored fields alone, so nothing is asked of the old Cause. -/
theorem Exn.reserved_causeAfter (e : Exn) (bd : Bool) (s : State) : e.causeAfter bd s &&& ~~~causeMask = 0 := by
  have hmask : ~~~causeMask = 0#1 ++ 1#1 ++ 0#2 ++ 0xFFFF#16 ++ 0#4 ++ 1#1 ++ 0#5 ++ 3#2 := by decide
  unfold Exn.causeAfter
  rw [hmask]
  repeat rw [BitVec.and_append]
  simp only [BitVec.and_zero, BitVec.zero_and]
  rfl

theorem reserved_debugAfter (k : DebugKind) (dbd nis oes : Bool) (old : Word) :
    debugAfter k dbd nis oes old &&& ~~~debugMask = 0 := by
  have hmask : ~~~debugMask =
      0#1 ++ 0#1 ++ 0x7FFF#15 ++ 0#1 ++ 1#1 ++ 0#1 ++ 1#1 ++ 0#1 ++ 1#1 ++ 0#1 ++ 0x3F#6 ++ 0#1 ++ 0#1 := by decide
  rw [debugAfter, hmask]
  repeat rw [BitVec.and_append]
  simp only [BitVec.and_zero, BitVec.zero_and]
  rfl

theorem reserved_debugWritten {old : Word} (v : Word) (h : old &&& ~~~debugMask = 0) :
    debugWritten old v &&& ~~~debugMask = 0 :=
  or_and_eq_zero (and_and_eq_zero_of_left _ (and_and_eq_zero_of_left _ h)) (and_mask_and_eq_zero v (by decide))

end Sys2Proof.Machine

/-! The Reset exception (60_exceptions.md R462, 70_reset_and_hazards.md R520, R521): the registers it writes in part, and the
statement about it (O59). -/

namespace Sys2Proof.Machine

/-! ### The registers a Reset exception writes -/

section afterReset

variable (s : State)

theorem State.afterReset_gpr_zero : s.afterReset.gpr[0] = 0 := by
  simp [State.afterReset]

theorem State.afterReset_status :
    s.afterReset.status = 0x0040E000 ||| (Config.freeWord s.tick (.resetCp0 12) &&& 0xF0070F3C) := by
  rw [State.afterReset]

theorem State.afterReset_cause : s.afterReset.cause = Config.freeWord s.tick (.resetCp0 13) &&& causeMask := by
  rw [State.afterReset]

theorem State.afterReset_debug : s.afterReset.debug = Config.freeWord s.tick (.resetCp0 16) &&& 0x80005403 := by
  rw [State.afterReset]

end afterReset

/-! ### The product through the inputs -/

theorem applyEvent_product (s : State) (e : InputEvent) : (applyEvent s e).product = s.product := by
  cases e with
  | busWrite pa b =>
    cases h : s.halted with
    | true => rw [applyEvent_busWrite_of_halted h]
    | false => rw [applyEvent_busWrite_of_not_halted h]
  | irqLevel | nmiEdge | reset | ivrRead | cpcond | busErrors => rfl

theorem foldl_applyEvent_product (es : List InputEvent) (s : State) : (es.foldl applyEvent s).product = s.product := by
  induction es generalizing s with
  | nil => rfl
  | cons e es ih => rw [List.foldl_cons, ih, applyEvent_product]

theorem State.sample_product (s : State) : s.sample.product = s.product :=
  foldl_applyEvent_product s.events s.nextBoundary

/-! ### The statement -/

theorem step_of_resetDue {s : State} (h : s.resetDue = true) : step s = .next s.sample.afterReset := if_pos h

/-- Settles O59: RESET sets the stated bits by a constant and opens others by a mask that holds none of them. -/
theorem resetException : Obligations.ResetException := by
  intro s hreset
  refine ⟨s.sample.afterReset, step_of_resetDue hreset, ?frame, s.sample.afterReset_gpr_zero, ?cmask, ?modes,
    ?bev, ?nmi, ?status, ?cause, ?debugMode, ?singleStep, ?debug, wf_afterReset s.sample, ?product,
    s.sample.afterReset_cop1_present, s.sample.afterReset_cop2_present, s.sample.afterReset_cop3_present⟩
  case frame => rw [State.afterReset]
  case cmask => rw [State.afterReset_status, extractLsb'_or_and _ (by decide)]; decide
  case modes => rw [State.afterReset_status, extractLsb'_or_and _ (by decide)]; decide
  case bev => rw [State.afterReset_status, getLsbD_or_and _ (by decide)]; decide
  case nmi => rw [State.afterReset_status, getLsbD_or_and _ (by decide)]; decide
  case status =>
    rw [State.afterReset_status]
    exact or_and_eq_zero (by decide) (and_mask_and_eq_zero _ (by decide))
  case cause => rw [State.afterReset_cause]; exact and_mask_and_eq_zero _ (by decide)
  case debugMode => rw [State.afterReset_debug]; simp
  case singleStep => rw [State.afterReset_debug]; simp
  case debug => rw [State.afterReset_debug]; exact and_mask_and_eq_zero _ (by decide)
  case product => rw [State.afterReset_product, State.sample_product]

end Sys2Proof.Machine

/-! The invariant of every run: each shared operation keeps it, so each instruction, each boundary and each step does (O10). -/

namespace Sys2Proof.Machine

/-! ### The updates of the state -/

section updates

variable {s : State}

theorem State.inv_setReg (r : Reg) (v : Word) (h : s.Inv) : (s.setReg r v).Inv := by
  obtain ⟨hmem, hr0, hcp0⟩ := h
  exact ⟨hmem, (writeGpr_get_zero s.gpr r v).trans hr0, hcp0⟩

theorem State.inv_finish (len : Word) (h : s.Inv) : (s.finish len).Inv := by
  obtain ⟨hmem, hr0, hstatus, hconfig, hcause, hdebug, hstop⟩ := h
  refine ⟨hmem, hr0, hstatus, hconfig, hcause, ?debug, hstop⟩
  rw [State.finish_debug]
  split
  · exact and_and_eq_zero_of_left _ hdebug
  · exact hdebug

theorem State.inv_finishAs (p : Prev) (len : Word) (h : s.Inv) : (s.finishAs p len).Inv := s.inv_finish len h

theorem State.inv_startTransfer (len target : Word) (nullify leavesDebug : Bool) (h : s.Inv) :
    (s.startTransfer len target nullify leavesDebug).Inv := h

theorem State.inv_setCop (z : BitVec 2) (c : Coprocessor) (h : s.Inv) : (s.setCop z c).Inv := h

theorem State.inv_divSigned (a b : Word) (h : s.Inv) : (s.divSigned a b).Inv := by
  rw [divSigned_eq]
  exact h

theorem State.inv_divUnsigned (a b : Word) (h : s.Inv) : (s.divUnsigned a b).Inv := by
  rw [divUnsigned_eq]
  exact h

theorem State.inv_storeCells (cells : List (Word × Byte)) (h : s.Inv) : (s.storeCells cells).Inv := by
  obtain ⟨hmem, hregs⟩ := h
  exact ⟨wf_storeCells hmem s cells, hregs⟩

/-- Debug.BsF is a stored bit (10_state.md R59). -/
theorem State.inv_setBsF (c : Bool) (h : s.Inv) :
    State.Inv { s with debug := if c then s.debug ||| 0x00000400 else s.debug } := by
  obtain ⟨hmem, hr0, hstatus, hconfig, hcause, hdebug, hstop⟩ := h
  refine ⟨hmem, hr0, hstatus, hconfig, hcause, ?debug, hstop⟩
  cases c with
  | true => exact or_and_eq_zero hdebug (by decide)
  | false => exact hdebug

theorem State.inv_dataBusError (d : DataBusError) (h : s.Inv) : (s.dataBusError d).Inv := s.inv_setBsF s.debugMode h

theorem State.inv_noteFetch (failed : Bool) (h : s.Inv) : (s.noteFetch failed).Inv := s.inv_setBsF failed h

theorem State.inv_age (h : s.Inv) : s.age.Inv := h

theorem State.inv_wake (h : s.Inv) : State.Inv { s with config := wake s.config } := by
  obtain ⟨hmem, hr0, hstatus, hconfig, hcause, hdebug, -⟩ := h
  have hstop : (bit (wake s.config) 8 && bit (wake s.config) 9) = false := by rw [bit_wake_halt, Bool.false_and]
  exact ⟨hmem, hr0, hstatus, and_and_eq_zero_of_left _ hconfig, hcause, hdebug, hstop⟩

/-! ### The entry of an exception -/

theorem State.inv_generalRegs (e : Exn) (epc : Word) (bd : Bool) (h : s.Inv) : (s.generalRegs e epc bd).Inv := by
  have hconfig : State.Inv { s with config := e.configAfter s.config } := by
    obtain heq | heq := e.configAfter_eq s.config <;> rw [heq]
    · exact s.inv_wake h
    · exact h
  obtain ⟨hmem, hr0, hstatus, hconfig, -, hdebug, hstop⟩ := hconfig
  exact ⟨hmem, hr0, e.reserved_statusAfter hstatus, hconfig, e.reserved_causeAfter bd s, hdebug, hstop⟩

theorem State.inv_enterAt (vector : Word) (h : s.Inv) : (s.enterAt vector).Inv := h

theorem State.inv_takeWith (e : Exn) (epc : Word) (bd : Bool) (h : s.Inv) : (s.takeWith e epc bd).Inv :=
  State.inv_enterAt _ (s.inv_generalRegs e epc bd h)

theorem State.inv_take (e : Exn) (h : s.Inv) : (s.take e).Inv := s.inv_takeWith e s.restart.1 s.restart.2 h

theorem State.inv_takeDebug (k : DebugKind) (nis oes : Bool) (h : s.Inv) : (s.takeDebug k nis oes).Inv := by
  obtain ⟨hmem, hr0, hstatus, hconfig, hcause, -, hstop⟩ := h
  exact ⟨hmem, hr0, hstatus, hconfig, hcause, reserved_debugAfter k s.restart.2 nis oes s.debug, hstop⟩

theorem State.inv_takeCoincident (k : DebugKind) (e : Exn) (h : s.Inv) : (s.takeCoincident k e).Inv :=
  State.inv_takeDebug k _ _ (s.inv_generalRegs e _ _ h)

theorem inv_takeDataBusError (d : DataBusError) (h : s.Inv) : (takeDataBusError d s).Inv := by
  have hcleared : State.Inv { s with dbe := none } := h
  unfold takeDataBusError
  split
  · exact State.inv_take .dbe hcleared
  · exact State.inv_takeWith .dbe _ _ hcleared

/-! ### Writes of the CP0 registers -/

theorem State.inv_writeStatus {status : Word} (hmask : status &&& ~~~statusMask = 0) (h : s.Inv) :
    State.Inv { s with status := status } := by
  obtain ⟨hmem, hr0, -, hcp0⟩ := h
  exact ⟨hmem, hr0, hmask, hcp0⟩

theorem State.inv_writeDebug {debug : Word} (hmask : debug &&& ~~~debugMask = 0) (h : s.Inv) :
    State.Inv { s with debug := debug } := by
  obtain ⟨hmem, hr0, hstatus, hconfig, hcause, -, hstop⟩ := h
  exact ⟨hmem, hr0, hstatus, hconfig, hcause, hmask, hstop⟩

theorem State.cp0Write_config (v : Word) (s : State) :
    s.cp0Write 3#5 v = if bit s.config 7 && !s.debugMode then s else { s with config := v &&& configMask } := rfl

/-- A write of Config keeps the invariant unless it leaves Halt and Doze both set, where MTC0 stops (10_state.md R36). -/
theorem State.inv_cp0Write_config {v : Word} (h : s.Inv)
    (hboth : ¬(bit (s.cp0Write 3#5 v).config 8 = true ∧ bit (s.cp0Write 3#5 v).config 9 = true)) :
    (s.cp0Write 3#5 v).Inv := by
  have ⟨hmem, hr0, hstatus, _, hcause, hdebug, _⟩ := h
  rw [State.cp0Write_config] at hboth ⊢
  split
  · exact h
  · next hunlocked =>
    rw [if_neg hunlocked] at hboth
    have hstop : (bit (v &&& configMask) 8 && bit (v &&& configMask) 9) = false := by simpa using hboth
    exact ⟨hmem, hr0, hstatus, and_mask_and_eq_zero v (by decide), hcause, hdebug, hstop⟩

/-- Every other CP0 register is written inside its mask. -/
theorem State.inv_cp0Write_of_ne_config {n : Reg} (v : Word) (hn : n ≠ 3#5) (h : s.Inv) : (s.cp0Write n v).Inv := by
  have ⟨hmem, hr0, hstatus, hconfig, hcause, hdebug, hstop⟩ := h
  unfold State.cp0Write
  split
  next hconfigReg => exact absurd (BitVec.eq_of_toNat_eq hconfigReg) hn
  next => exact s.inv_writeStatus (reserved_statusWritten v hstatus) h
  next =>
    have hmask := or_and_eq_zero (and_and_eq_zero_of_left 0xFFFFF0FF hcause)
      (and_mask_and_eq_zero v (k := 0x00000F00) (by decide))
    exact ⟨hmem, hr0, hstatus, hconfig, hmask, hdebug, hstop⟩
  next => exact h
  next => exact s.inv_writeDebug (reserved_debugWritten v hdebug) h
  next => exact h
  next =>
    have hbit : (if v = 0 then 0 else 1 : Word) &&& ~~~statusMask = 0 := by split <;> decide
    exact s.inv_writeStatus (or_and_eq_zero (and_and_eq_zero_of_left _ hstatus) hbit) h
  next => exact h

end updates

/-! ### Results -/

/-- If the result goes on, it goes on in a state that meets the invariant. -/
def KeepsInv (r : Result) : Prop := ∀ t, r = .next t → t.Inv

theorem keepsInv_next {t : State} (h : t.Inv) : KeepsInv (.next t) := by
  rintro _ ⟨⟩
  exact h

theorem keepsInv_fault (f : Fault) : KeepsInv (.fault f) := by
  rintro _ ⟨⟩

theorem keepsInv_refused (r : Refusal) : KeepsInv (.refused r) := by
  rintro _ ⟨⟩

section guards

variable {s : State} {body : Result}

theorem keepsInv_raise {e : Exn} (h : s.Inv) : KeepsInv (raise e s) := by
  intro t ht
  obtain ⟨-, rfl⟩ := raise_next ht
  exact s.inv_take e h

theorem keepsInv_outsideSlot {f : Fault} (hbody : KeepsInv body) : KeepsInv (outsideSlot f s body) :=
  fun t ht => hbody t (outsideSlot_next ht).2

theorem keepsInv_extended (hbody : KeepsInv body) : KeepsInv (extended s body) := keepsInv_outsideSlot hbody

theorem keepsInv_ifUsable {z : BitVec 2} (h : s.Inv) (hbody : KeepsInv body) : KeepsInv (ifUsable z s body) := by
  intro t ht
  obtain ⟨-, hnext⟩ | ⟨-, -, rfl⟩ := ifUsable_next ht
  · exact hbody t hnext
  · exact s.inv_take (.cpu z) h

theorem keepsInv_ifCop {z : BitVec 2} (h : s.Inv) (hbody : KeepsInv body) : KeepsInv (ifCop z s body) := by
  intro t ht
  obtain ⟨-, -, hnext⟩ | ⟨-, -, rfl⟩ := ifCop_next ht
  · exact hbody t hnext
  · exact s.inv_take (.cpu z) h

end guards

/-! ### The shapes of instructions -/

section shapes

variable {s : State} {len : Word}

theorem keepsInv_finish (h : s.Inv) : KeepsInv (.next (s.finish len)) := keepsInv_next (s.inv_finish len h)

theorem keepsInv_load {dest : Reg} {ea : Word} {align : Nat} {vas : List Word} {value : Word} (h : s.Inv) :
    KeepsInv (load len dest ea align vas value s) := by
  intro t ht
  obtain ⟨-, rfl⟩ | ⟨-, rfl⟩ | ⟨-, -, rfl⟩ := load_next ht
  · exact State.inv_finishAs _ _ (s.inv_setReg dest value h)
  · exact State.inv_finishAs _ _ (State.inv_dataBusError _ (s.inv_setReg dest _ h))
  · exact s.inv_take _ h

theorem keepsInv_store {ea : Word} {align : Nat} {cells : List (Word × Byte)} (h : s.Inv) :
    KeepsInv (store len ea align cells s) := by
  intro t ht
  have hspoil : (s.spoilCells cells).Inv := s.inv_storeCells _ h
  obtain ⟨-, rfl⟩ | ⟨-, rfl | rfl⟩ | ⟨-, -, rfl⟩ := store_next ht
  · exact State.inv_finishAs _ _ (s.inv_storeCells cells h)
  · exact State.inv_finishAs _ _ hspoil
  · exact State.inv_finishAs _ _ (State.inv_dataBusError _ hspoil)
  · exact s.inv_take _ h

theorem keepsInv_writeReg {rd : Reg} {v : Word} (h : s.Inv) : KeepsInv (writeReg len rd v s) :=
  keepsInv_finish (s.inv_setReg rd v h)

theorem keepsInv_writeRegOrOverflow {overflow : Bool} {rd : Reg} {v : Word} (h : s.Inv) :
    KeepsInv (writeRegOrOverflow overflow rd v s) := by
  cases overflow with
  | true => exact keepsInv_raise (e := .ov) h
  | false => exact keepsInv_writeReg h

theorem keepsInv_writeProduct {rd : Reg} {p : BitVec 64} (h : s.Inv) : KeepsInv (writeProduct rd p s) := by
  have hproduct : (s.setHiLo p).Inv := h
  exact keepsInv_finish (State.inv_setReg rd _ hproduct)

theorem keepsInv_startTransfer {target : Word} {nullify leavesDebug : Bool} (h : s.Inv) :
    KeepsInv (.next (s.startTransfer len target nullify leavesDebug)) :=
  keepsInv_next (s.inv_startTransfer len target nullify leavesDebug h)

theorem keepsInv_jump {target : Word} (h : s.Inv) : KeepsInv (jump len target s) :=
  keepsInv_outsideSlot (keepsInv_startTransfer h)

theorem keepsInv_jumpLink {target : Word} {rd : Reg} {link : Word} (h : s.Inv) :
    KeepsInv (jumpLink len target rd link s) :=
  keepsInv_outsideSlot (keepsInv_startTransfer (s.inv_setReg rd link h))

theorem keepsInv_execJalr {rs rd : Reg} (h : s.Inv) : KeepsInv (execJalr rs rd s) := by
  unfold execJalr
  split
  · exact keepsInv_fault _
  · exact keepsInv_jumpLink h

theorem keepsInv_branch {taken : Bool} {offset : BitVec 16} (h : s.Inv) : KeepsInv (branch taken offset s) :=
  keepsInv_outsideSlot (keepsInv_startTransfer h)

theorem keepsInv_branchLikely {taken : Bool} {offset : BitVec 16} (h : s.Inv) :
    KeepsInv (branchLikely taken offset s) :=
  keepsInv_outsideSlot (keepsInv_startTransfer h)

theorem keepsInv_branchLink {rs : Reg} {likely taken : Bool} {offset : BitVec 16} (h : s.Inv) :
    KeepsInv (branchLink rs likely taken offset s) := by
  unfold branchLink
  split
  · exact keepsInv_fault _
  · exact keepsInv_outsideSlot (keepsInv_startTransfer (s.inv_setReg ra _ h))

theorem keepsInv_branch16 {n : Nat} {taken : Bool} {offset : BitVec n} (h : s.Inv) :
    KeepsInv (branch16 len taken offset s) := by
  have hbranch : ∀ target, (s.branchTo target).Inv := fun _ => h
  exact keepsInv_outsideSlot (keepsInv_next (hbranch _))

/-! ### Stores of a part of a word -/

theorem keepsInv_execSwl {base rt : Reg} {offset : BitVec 16} (h : s.Inv) : KeepsInv (execSwl base rt offset s) := by
  unfold execSwl
  simp only
  split <;> exact keepsInv_store h

theorem keepsInv_execSwr {base rt : Reg} {offset : BitVec 16} (h : s.Inv) : KeepsInv (execSwr base rt offset s) := by
  unfold execSwr
  simp only
  split <;> exact keepsInv_store h

/-! ### Coprocessors -/

section coprocessors

variable {z : BitVec 2} {rt rd : Reg}

theorem keepsInv_mfcz (h : s.Inv) : KeepsInv (mfcz z rt rd s) := keepsInv_ifCop h (keepsInv_finish (s.inv_setReg rt _ h))

theorem keepsInv_cfcz (h : s.Inv) : KeepsInv (cfcz z rt rd s) := keepsInv_ifCop h (keepsInv_finish (s.inv_setReg rt _ h))

theorem keepsInv_mtcz (h : s.Inv) : KeepsInv (mtcz z rt rd s) := keepsInv_ifCop h (keepsInv_finish (s.inv_setCop z _ h))

theorem keepsInv_ctcz (h : s.Inv) : KeepsInv (ctcz z rt rd s) := keepsInv_ifCop h (keepsInv_finish (s.inv_setCop z _ h))

theorem keepsInv_copz (h : s.Inv) : KeepsInv (copz z s) := by
  have hopened : State.Inv { s.setCop z ((s.cop z).opened z s.tick) with cpcond := openCondition z s.tick s.cpcond } := h
  exact keepsInv_ifCop h (keepsInv_finish hopened)

theorem keepsInv_bcz {want : Bool} {offset : BitVec 16} (h : s.Inv) : KeepsInv (bcz z want offset s) :=
  keepsInv_ifCop h (keepsInv_branch h)

theorem keepsInv_bczLikely {want : Bool} {offset : BitVec 16} (h : s.Inv) : KeepsInv (bczLikely z want offset s) :=
  keepsInv_ifCop h (keepsInv_branchLikely h)

theorem keepsInv_execMfc0 (h : s.Inv) : KeepsInv (execMfc0 rt rd s) := by
  intro t ht
  obtain ⟨-, -, rfl⟩ | ⟨-, -, rfl⟩ := execMfc0_next ht
  · exact State.inv_finishAs _ _ (s.inv_setReg rt _ h)
  · exact s.inv_take _ h

theorem keepsInv_mtc0Effect {v : Word} (h : s.Inv) : KeepsInv (mtc0Effect rd v s) := by
  intro t ht
  obtain ⟨-, -, hboth, rfl⟩ := mtc0Effect_next ht
  apply State.inv_finishAs
  by_cases hrd : rd = 3#5
  · subst hrd
    exact s.inv_cp0Write_config h fun hbits => hboth ⟨rfl, hbits⟩
  · exact s.inv_cp0Write_of_ne_config v hrd h

theorem keepsInv_execRfe (h : s.Inv) : KeepsInv (execRfe s) := by
  have ⟨_, _, hstatus, _⟩ := h
  refine keepsInv_ifUsable h (keepsInv_finish (s.inv_writeStatus ?_ h))
  split
  · exact and_mask_and_eq_zero _ (by decide)
  · exact reserved_popStatus hstatus

theorem keepsInv_execDeret (h : s.Inv) : KeepsInv (execDeret s) := by
  have ⟨_, _, _, _, _, hdebug, _⟩ := h
  refine keepsInv_ifUsable h (keepsInv_outsideSlot ?_)
  split
  · refine keepsInv_startTransfer (s.inv_writeDebug ?_ h)
    split
    · exact and_mask_and_eq_zero _ (by decide)
    · exact hdebug
  · exact keepsInv_fault _

end coprocessors

theorem keepsInv_debugBreakpoint (h : s.Inv) : KeepsInv (debugBreakpoint s) := by
  unfold debugBreakpoint
  split
  · exact keepsInv_fault _
  · exact keepsInv_next (s.inv_takeDebug .breakpoint false false h)

end shapes

/-! ### Every instruction -/

/-- The instructions by their shape. -/
theorem keepsInv_exec (i : Instr) {s : State} (h : s.Inv) : KeepsInv (exec i s) := by
  cases i with
  | lb | lbu | lh | lhu | lwl | lwr | lw | lb16 | lbu16 | lh16 | lhu16 | lw16 | lwpc | lwsp => exact keepsInv_load h
  | lbE | lbuE | lhE | lhuE | lwE | lwpcE | lwspE => exact keepsInv_extended (keepsInv_load h)
  | sb | sh | sw | sb16 | sh16 | sw16 | swsp | swrasp => exact keepsInv_store h
  | swl => exact keepsInv_execSwl h
  | swr => exact keepsInv_execSwr h
  | sbE | shE | swE | swspE | swraspE => exact keepsInv_extended (keepsInv_store h)
  | add | sub | addi => exact keepsInv_writeRegOrOverflow h
  | addu | subu | and | or | xor | nor | slt | sltu | addiu | slti | sltiu | andi | ori | xori | lui | sll | srl | sra
  | sllv | srlv | srav | mfhi | mflo | addiu3 | addiupc | addiu8 | addiusp | adjsp | addu16 | subu16 | neg16 | slt16
  | sltu16 | slti16 | sltiu16 | movr32 | mov32r | cmp16 | cmpi16 | and16 | or16 | xor16 | not16 | li16 | sll16 | srl16
  | sra16 | sllv16 | srlv16 | srav16 | mfhi16 | mflo16 => exact keepsInv_writeReg h
  | addiu3E | addiupcE | addiu8E | addiuspE | adjspE | sltiE | sltiuE | cmpiE | liE | sllE | srlE | sraE =>
    exact keepsInv_extended (keepsInv_writeReg h)
  | mult | multu | madd | maddu => exact keepsInv_writeProduct h
  | div | div16 => exact keepsInv_finish (s.inv_divSigned _ _ h)
  | divu | divu16 => exact keepsInv_finish (s.inv_divUnsigned _ _ h)
  | mthi rs => exact keepsInv_finish (s := { s with hi := s.reg rs }) h
  | mtlo rs => exact keepsInv_finish (s := { s with lo := s.reg rs }) h
  | mult16 rx ry => exact keepsInv_finish (s := s.setHiLo (productSigned (s.reg (xlat rx)) (s.reg (xlat ry)))) h
  | multu16 rx ry => exact keepsInv_finish (s := s.setHiLo (productUnsigned (s.reg (xlat rx)) (s.reg (xlat ry)))) h
  | sync => exact keepsInv_finish h
  | j | jr | jr16 | jrra => exact keepsInv_jump h
  | jal | jalx | jalr16 => exact keepsInv_jumpLink h
  | jal16 | jalx16 => exact keepsInv_extended (keepsInv_jumpLink h)
  | jalr => exact keepsInv_execJalr h
  | beq | bne | blez | bgtz | bltz | bgez => exact keepsInv_branch h
  | beql | bnel | blezl | bgtzl | bltzl | bgezl => exact keepsInv_branchLikely h
  | bltzal | bgezal | bltzall | bgezall => exact keepsInv_branchLink h
  | beqz | bnez | bteqz | btnez | b => exact keepsInv_branch16 h
  | beqzE | bnezE | bteqzE | btnezE | bE => exact keepsInv_extended (keepsInv_branch16 h)
  | mfc1 | mfc2 | mfc3 => exact keepsInv_mfcz h
  | mtc1 | mtc2 | mtc3 => exact keepsInv_mtcz h
  | cfc1 | cfc2 | cfc3 => exact keepsInv_cfcz h
  | ctc1 | ctc2 | ctc3 => exact keepsInv_ctcz h
  | cop1 | cop2 | cop3 => exact keepsInv_copz h
  | bc1f | bc1t | bc2f | bc2t | bc3f | bc3t => exact keepsInv_bcz h
  | bc1fl | bc1tl | bc2fl | bc2tl | bc3fl | bc3tl => exact keepsInv_bczLikely h
  | bc0f | bc0t => exact keepsInv_ifUsable h (keepsInv_branch h)
  | bc0fl | bc0tl => exact keepsInv_ifUsable h (keepsInv_branchLikely h)
  | mfc0 => exact keepsInv_execMfc0 h
  | mtc0 => exact keepsInv_ifUsable h (keepsInv_mtc0Effect h)
  | rfe => exact keepsInv_execRfe h
  | deret => exact keepsInv_execDeret h
  | tlbr | tlbwi | tlbwr | tlbp => exact keepsInv_ifUsable h (keepsInv_finish h)
  | cfc0 | ctc0 | cache => exact keepsInv_ifUsable h (keepsInv_refused _)
  | lwcz | swcz | syscall | brk | brk16 => exact keepsInv_raise h
  | extend => exact keepsInv_extended (keepsInv_raise h)
  | sdbbp | sdbbp16 => exact keepsInv_debugBreakpoint h

/-! ### The boundary -/

section boundary

variable {s : State}

theorem keepsInv_execDecoded (d : Decoded) (h : s.Inv) : KeepsInv (execDecoded d s) := by
  cases d with
  | instr i => exact keepsInv_exec i h
  | reserved => exact keepsInv_raise h
  | reservedCop z => exact keepsInv_ifUsable h (keepsInv_raise h)
  | nonZeroField => exact keepsInv_refused _
  | nonZeroFieldCop z => exact keepsInv_ifUsable h (keepsInv_refused _)
  | unlistedCop0 => exact keepsInv_ifUsable h (keepsInv_refused _)

theorem keepsInv_runFetched (f : Fetched) (h : s.Inv) : KeepsInv (runFetched f s) := by
  cases f with
  | addressError va => exact keepsInv_raise h
  | reserved => exact keepsInv_refused _
  | busError => exact keepsInv_raise h
  | stale => exact keepsInv_fault _
  | code c failed => exact keepsInv_execDecoded _ (State.inv_age (s.inv_noteFetch failed h))

theorem keepsInv_takeSingleStep (h : s.Inv) : KeepsInv (takeSingleStep s) := by
  intro t ht
  obtain rfl | ⟨va, rfl⟩ := takeSingleStep_next ht
  · exact s.inv_takeDebug _ _ _ h
  · exact s.inv_takeCoincident _ _ h

theorem keepsInv_dispatchNext (h : s.Inv) : KeepsInv (dispatchNext s) := by
  intro t ht
  obtain hrun | ⟨d, -, rfl⟩ | ⟨-, rfl | rfl⟩ | ⟨e, -, rfl | rfl⟩ := dispatchNext_next ht
  · exact keepsInv_runFetched s.fetch h t hrun
  · exact inv_takeDataBusError d h
  · exact s.inv_takeCoincident _ _ h
  · exact s.inv_take _ h
  · exact s.inv_takeCoincident _ _ h
  · exact s.inv_take _ h

theorem keepsInv_runBoundary (h : s.Inv) : KeepsInv (runBoundary s) := by
  intro t ht
  obtain ⟨-, hstep⟩ | ⟨-, hnext⟩ := runBoundary_next ht
  · exact keepsInv_takeSingleStep h t hstep
  · exact keepsInv_dispatchNext h t hnext

theorem keepsInv_boundary (h : s.Inv) : KeepsInv (boundary s) := by
  intro t ht
  obtain ⟨k, -, -, rfl⟩ | ⟨-, -, rfl⟩ | ⟨-, -, hrun⟩ | ⟨-, hrun⟩ := boundary_next ht
  · exact h
  · exact h
  · exact keepsInv_runBoundary (s.inv_wake h) t hrun
  · exact keepsInv_runBoundary h t hrun

/-! ### The inputs and RESET -/

theorem inv_applyEvent (e : InputEvent) (h : s.Inv) : (applyEvent s e).Inv := by
  cases e with
  | ivrRead =>
    have ⟨_, _, hstatus, _⟩ := h
    exact s.inv_writeStatus (reserved_setCmask s.irqLevel hstatus) h
  | busWrite pa b =>
    cases hhalt : s.halted with
    | true => rwa [applyEvent_busWrite_of_halted hhalt]
    | false =>
      obtain ⟨hmem, hregs⟩ := h
      rw [applyEvent_busWrite_of_not_halted hhalt]
      exact ⟨wf_memWrite hmem pa.isLt, hregs⟩
  | irqLevel | nmiEdge | reset | cpcond | busErrors => exact h

theorem inv_foldl_applyEvent (es : List InputEvent) (h : s.Inv) : (es.foldl applyEvent s).Inv := by
  induction es generalizing s with
  | nil => exact h
  | cons e es ih => exact ih (inv_applyEvent e h)

theorem State.inv_sample (h : s.Inv) : s.sample.Inv := by
  have hnext : s.nextBoundary.Inv := h
  exact inv_foldl_applyEvent s.events hnext

end boundary

/-- The Reset exception establishes the invariant from any state: every register it leaves open is open inside its mask only. -/
theorem State.inv_afterReset (s : State) : s.afterReset.Inv := by
  refine ⟨wf_afterReset s, s.afterReset_gpr_zero, ?status, ?config, ?cause, ?debug, ?stopped⟩
  case status =>
    rw [State.afterReset_status]
    exact or_and_eq_zero (by decide) (and_mask_and_eq_zero _ (by decide))
  case config => rw [State.afterReset_config]; decide
  case cause => rw [State.afterReset_cause]; exact and_mask_and_eq_zero _ (by decide)
  case debug => rw [State.afterReset_debug]; exact and_mask_and_eq_zero _ (by decide)
  case stopped => rw [State.afterReset_config]; decide

/-! ### The statement -/

theorem keepsInv_step {s : State} (h : s.Inv) : KeepsInv (step s) := by
  unfold step
  split
  · exact keepsInv_next s.sample.inv_afterReset
  · exact keepsInv_boundary (s.inv_sample h)

/-- Settles O10: RESET establishes the invariant, and the inputs and the boundary behind them keep it. -/
theorem stepKeepsInvariant : Obligations.StepKeepsInvariant := fun _ t h => keepsInv_step h t

end Sys2Proof.Machine

/-! The fixed address translation and the checks of an access, in arithmetic on addresses (20_memory.md R85, R91 to R93): the
statement about the translation (O13), and what an access meets. -/

namespace Sys2Proof.Machine

open Sys2Proof.Spec

/-! ### Bits and fields of an address as numbers -/

theorem bit_eq_decide (w : Word) (n : Nat) : bit w n = decide (w.toNat / 2 ^ n % 2 = 1) := by
  rw [bit_eq_getLsbD, BitVec.getLsbD, Nat.testBit_eq_decide_div_mod_eq]

theorem extractLsb'_beq_zero (w : Word) (n : Nat) : (w.extractLsb' n 1 == 0#1) = !bit w n := by
  unfold bit
  generalize w.extractLsb' n 1 = b
  revert b
  decide

theorem extractLsb'_beq_eq_decide (w : Word) (i n : Nat) (v : BitVec n) :
    (w.extractLsb' i n == v) = decide (w.toNat / 2 ^ i % 2 ^ n = v.toNat) := by
  rw [Bool.eq_iff_iff, beq_iff_eq, decide_eq_true_eq, ← BitVec.toNat_inj, BitVec.extractLsb'_toNat, Nat.shiftRight_eq_div_pow]

theorem bit_31_eq_decide (va : Word) : bit va 31 = decide (2 ^ 31 ≤ va.toNat) := by
  have hva := va.isLt
  rw [bit_eq_decide, decide_eq_decide]
  omega

/-! ### The translation -/

section translate

variable {va : Word}

theorem translate_of_kuseg (h : va.toNat < 0x80000000) : translate va = va + 0x40000000 := by
  have h31 : bit va 31 = false := by rw [bit_31_eq_decide]; simpa using h
  simp [translate, extractLsb'_beq_zero, h31]

theorem translate_of_unmapped (h : 0x80000000 ≤ va.toNat) (h' : va.toNat < 0xC0000000) :
    translate va = va &&& 0x1FFFFFFF := by
  have h31 : bit va 31 = true := by rw [bit_31_eq_decide]; simpa using h
  have h30 : bit va 30 = false := by rw [bit_eq_decide, decide_eq_false_iff_not]; omega
  simp [translate, extractLsb'_beq_zero, h31, h30]

theorem translate_of_kseg2 (h : 0xC0000000 ≤ va.toNat) : translate va = va := by
  have hva := va.isLt
  have h31 : bit va 31 = true := by rw [bit_31_eq_decide, decide_eq_true_eq]; omega
  have h30 : bit va 30 = true := by rw [bit_eq_decide, decide_eq_true_eq]; omega
  simp [translate, extractLsb'_beq_zero, h31, h30]

end translate

/-- Settles O13, range by range: the sum of kuseg does not wrap, and the mask of kseg0 and kseg1 keeps the low 29 bits. -/
theorem translation : Obligations.Translation := by
  intro va
  refine ⟨fun hkuseg => ?_, fun ⟨hlo, hhi⟩ => ?_, translate_of_kseg2⟩
  · have hsum : va.toNat + 0x40000000 < 2 ^ 32 := by omega
    rw [translate_of_kuseg hkuseg, BitVec.toNat_add]
    exact Nat.mod_eq_of_lt hsum
  · rw [translate_of_unmapped hlo hhi, BitVec.toNat_and]
    exact Nat.and_two_pow_sub_one_eq_mod va.toNat 29

/-! ### What an access meets -/

theorem reservedRange_iff (va : Word) : reservedRange va = true ↔ InReserved va := by
  have hva := va.isLt
  simp only [reservedRange, extractLsb'_beq_eq_decide, Bool.or_eq_true, decide_eq_true_eq, BitVec.reduceToNat]
  omega

section access

variable {s : State} {k : AccessKind} {ea : Word} {align : Nat} {vas : List Word}

/-- The first check of an access, in the words of the statements. -/
theorem permitted_iff : Permitted s ea align ↔ (ea.toNat % align ≠ 0 || (s.userMode && bit ea 31)) = false := by
  rw [bit_31_eq_decide]
  simp

theorem access_addressError (h : ¬ Permitted s ea align) : s.access k ea align vas = .addressError := by
  rw [permitted_iff, Bool.not_eq_false] at h
  exact if_pos h

theorem access_of_permitted (h : Permitted s ea align) :
    s.access k ea align vas =
      if reservedRange ea && !vas.all s.onDevice then .reserved else if s.busFails k vas then .busError else .granted := by
  rw [permitted_iff] at h
  rw [State.access, if_neg (by rw [h]; decide)]

theorem access_reserved (h : Permitted s ea align) (hr : InReserved ea) (hd : ∃ va ∈ vas, s.onDevice va = false) :
    s.access k ea align vas = .reserved := by
  have hr' := (reservedRange_iff ea).mpr hr
  rw [access_of_permitted h, if_pos (by simpa [hr'] using hd)]

/-- Behind the checks for address errors and reserved ranges only a bus error can stop the access. -/
theorem access_of_open (h : Permitted s ea align) (hr : InReserved ea → ∀ va ∈ vas, s.onDevice va = true) :
    s.access k ea align vas = if s.busFails k vas then .busError else .granted := by
  rw [← reservedRange_iff, ← List.all_eq_true] at hr
  have hopen : ¬ (reservedRange ea && !vas.all s.onDevice) = true := by simpa using hr
  rw [access_of_permitted h, if_neg hopen]

theorem access_busError (h : Permitted s ea align) (hr : InReserved ea → ∀ va ∈ vas, s.onDevice va = true)
    (hb : s.busFails k vas = true) : s.access k ea align vas = .busError := by
  rw [access_of_open h hr, if_pos hb]

theorem access_granted (h : Permitted s ea align) (hr : InReserved ea → ∀ va ∈ vas, s.onDevice va = true)
    (hb : s.busFails k vas = false) : s.access k ea align vas = .granted := by
  rw [access_of_open h hr, hb]
  rfl

end access

end Sys2Proof.Machine

/-! Loads and stores of every form as the two shared operations, and where they may not make their access: the statement about
address errors (O18). -/

namespace Sys2Proof.Machine

open Sys2Proof.Spec

/-! ### Addresses -/

section addresses

variable (s : State)

variable {n : Nat}

theorem eaShort_one (base : Reg) (offset : BitVec n) : eaShort s base 1 offset.toNat = s.reg base + zext offset := by
  simp [eaShort, zext, BitVec.ofNat_toNat]

theorem zext2_eq (v : BitVec n) : zext2 v = BitVec.ofNat 32 (2 * v.toNat) := by
  apply BitVec.eq_of_toNat_eq
  simp [zext2, zext, BitVec.toNat_append, Nat.shiftLeft_eq, Nat.mul_comm]

theorem zext4_eq (v : BitVec n) : zext4 v = BitVec.ofNat 32 (4 * v.toNat) := by
  apply BitVec.eq_of_toNat_eq
  simp [zext4, zext, BitVec.toNat_append, Nat.shiftLeft_eq, Nat.mul_comm]

theorem eaShort_two (base : Reg) (offset : BitVec n) : eaShort s base 2 offset.toNat = s.reg base + zext2 offset := by
  rw [zext2_eq, eaShort]

theorem eaShort_four (base : Reg) (offset : BitVec n) : eaShort s base 4 offset.toNat = s.reg base + zext4 offset := by
  rw [zext4_eq, eaShort]

/-- The mask of the low two bits rounds down to a multiple of 4. -/
theorem and_mask4_eq (w : Word) : w &&& 0xFFFFFFFC = BitVec.ofNat 32 (w.toNat / 4 * 4) := by
  calc w &&& 0xFFFFFFFC = w >>> 2 <<< 2 := by rw [BitVec.shiftLeft_ushiftRight]; rfl
    _ = BitVec.ofNat 32 (w.toNat / 4 * 4) := by
      apply BitVec.eq_of_toNat_eq
      simp [Nat.shiftLeft_eq, Nat.shiftRight_eq_div_pow]

theorem maskedBasePc_eq : s.maskedBasePc = basePc s := (and_mask4_eq (savedPc s))

end addresses

/-! ### Bytes at consecutive addresses -/

theorem map_fst_cellsFrom (va : Word) (bs : List Byte) : (cellsFrom va bs).map (·.1) = bytesFrom va bs.length := by
  induction bs generalizing va with
  | nil => rfl
  | cons b bs ih => rw [cellsFrom, List.map_cons, ih, List.length_cons, bytesFrom]

theorem length_halfBytes (big : Bool) (h : Half) : (halfBytes big h).length = 2 := by cases big <;> rfl

theorem length_wordBytes (big : Bool) (w : Word) : (wordBytes big w).length = 4 := by cases big <;> rfl

/-! ### Every load but LWL and LWR -/

/-- What the shared load puts into the register for a form: the bytes at its address, extended to a word. -/
def loadValue (s : State) (f : LoadForm) : Word :=
  match f.width, f.signed with
  | 1, true => sext (s.byteAt f.ea)
  | 1, false => zext (s.byteAt f.ea)
  | 2, true => sext (s.halfAt f.ea)
  | 2, false => zext (s.halfAt f.ea)
  | _, _ => s.wordAt f.ea

/-- The shared load of a form. -/
def runLoad (s : State) (f : LoadForm) : Result :=
  load f.len f.dest f.ea f.width (bytesFrom f.ea f.width) (loadValue s f) s

section loads

variable {s : State} {i : Instr} {f : LoadForm}

theorem exec_of_load32 (h : load32 s i = some f) : exec i s = runLoad s f := by
  unfold load32 at h
  split at h <;> cases h <;> rfl

theorem exec_of_load16 (h : load16 s i = some f) : exec i s = runLoad s f := by
  unfold load16 at h
  simp only [eaShort_one, eaShort_two, eaShort_four, ← zext4_eq, ← maskedBasePc_eq] at h
  split at h <;> cases h <;> rfl

theorem twoHalves_of_loadExtended (h : loadExtended s i = some f) : twoHalves i = true := by
  unfold loadExtended at h
  split at h <;> cases h <;> rfl

theorem exec_of_loadExtended (hslot : s.slot = none) (h : loadExtended s i = some f) : exec i s = runLoad s f := by
  have hout : ∀ body, extended s body = body := fun _ => outsideSlot_none hslot
  unfold loadExtended at h
  rw [← maskedBasePc_eq] at h
  split at h <;> cases h <;> exact hout _

/-- Every load but LWL and LWR is the shared load of its form. -/
theorem exec_of_loadForm (hslot : twoHalves i = true → s.slot = none) (h : loadForm s i = some f) :
    exec i s = runLoad s f := by
  rw [loadForm, Option.or_eq_some_iff, Option.or_eq_some_iff] at h
  obtain h32 | ⟨-, h16 | ⟨-, hext⟩⟩ := h
  · exact exec_of_load32 h32
  · exact exec_of_load16 h16
  · exact exec_of_loadExtended (hslot (twoHalves_of_loadExtended hext)) hext

end loads

/-! ### Every store but SWL and SWR -/

/-- What the shared store writes for a form: the low bytes of its value in the byte order of the product. -/
def storedBytes (s : State) (f : StoreForm) : List Byte :=
  match f.width with
  | 1 => [f.value.extractLsb' 0 8]
  | 2 => halfBytes s.product.bigEndian (f.value.extractLsb' 0 16)
  | _ => wordBytes s.product.bigEndian f.value

/-- The shared store of a form. -/
def runStore (s : State) (f : StoreForm) : Result := store f.len f.ea f.width (cellsFrom f.ea (storedBytes s f)) s

section stores

variable {s : State} {i : Instr} {f : StoreForm}

theorem exec_of_store32 (h : store32 s i = some f) : exec i s = runStore s f := by
  unfold store32 at h
  split at h <;> cases h <;> rfl

theorem exec_of_store16 (h : store16 s i = some f) : exec i s = runStore s f := by
  unfold store16 at h
  simp only [eaShort_one, eaShort_two, eaShort_four] at h
  split at h <;> cases h <;> rfl

theorem twoHalves_of_storeExtended (h : storeExtended s i = some f) : twoHalves i = true := by
  unfold storeExtended at h
  split at h <;> cases h <;> rfl

theorem exec_of_storeExtended (hslot : s.slot = none) (h : storeExtended s i = some f) : exec i s = runStore s f := by
  have hout : ∀ body, extended s body = body := fun _ => outsideSlot_none hslot
  unfold storeExtended at h
  split at h <;> cases h <;> exact hout _

/-- Every store but SWL and SWR is the shared store of its form. -/
theorem exec_of_storeForm (hslot : twoHalves i = true → s.slot = none) (h : storeForm s i = some f) :
    exec i s = runStore s f := by
  rw [storeForm, Option.or_eq_some_iff, Option.or_eq_some_iff] at h
  obtain h32 | ⟨-, h16 | ⟨-, hext⟩⟩ := h
  · exact exec_of_store32 h32
  · exact exec_of_store16 h16
  · exact exec_of_storeExtended (hslot (twoHalves_of_storeExtended hext)) hext

/-- A store form is one, two or four bytes wide. -/
theorem width_of_storeForm (h : storeForm s i = some f) : f.width = 1 ∨ f.width = 2 ∨ f.width = 4 := by
  rw [storeForm, Option.or_eq_some_iff, Option.or_eq_some_iff] at h
  obtain h | ⟨-, h | ⟨-, h⟩⟩ := h
  · unfold store32 at h
    split at h <;> cases h <;> simp
  · unfold store16 at h
    split at h <;> cases h <;> simp
  · unfold storeExtended at h
    split at h <;> cases h <;> simp

theorem length_storedBytes (h : storeForm s i = some f) : (storedBytes s f).length = f.width := by
  obtain ⟨ea, width, value, len⟩ := f
  obtain rfl | rfl | rfl := width_of_storeForm h
  · rfl
  · exact length_halfBytes _ _
  · exact length_wordBytes _ _

end stores

/-! ### LWL, LWR, SWL and SWR -/

/-- SWR reaches the addresses SWL reaches in the other byte order, and LWR those LWL reaches (40_loadstore32.md R177, R178). -/
theorem rightBytes_eq (big : Bool) (ea : Word) : rightBytes big ea = leftBytes (!big) ea := by cases big <;> rfl

/-- What SWL writes of a word's four bytes in memory order, and SWR with `up` for the other byte order: those from the addressed
one up to the end of the aligned word, or those from the start of that word up to the addressed one. -/
def partialCells (up : Bool) (ea : Word) (bytes : List Byte) : List (Word × Byte) :=
  if up then cellsFrom ea (bytes.take (4 - ea.toNat % 4)) else cellsFrom (alignedWord ea) (bytes.drop (3 - ea.toNat % 4))

theorem map_fst_partialCells (up : Bool) (ea : Word) {bytes : List Byte} (h : bytes.length = 4) :
    (partialCells up ea bytes).map (·.1) = leftBytes up ea := by
  cases up with
  | true =>
    have hlen : (bytes.take (4 - ea.toNat % 4)).length = 4 - ea.toNat % 4 := by rw [List.length_take]; omega
    exact (map_fst_cellsFrom _ _).trans (by rw [hlen]; rfl)
  | false =>
    have hlen : (bytes.drop (3 - ea.toNat % 4)).length = ea.toNat % 4 + 1 := by rw [List.length_drop]; omega
    exact (map_fst_cellsFrom _ _).trans (by rw [hlen]; rfl)

section partialStores

variable (base rt : Reg) (o : BitVec 16) (s : State)

theorem exec_swl : exec (.swl base rt o) s =
    store 4 (Spec.ea32 s base o) 1
      (partialCells s.product.bigEndian (Spec.ea32 s base o) (wordBytes s.product.bigEndian (s.reg rt))) s := by
  change execSwl base rt o s = _
  unfold execSwl
  cases s.product.bigEndian <;> rfl

theorem exec_swr : exec (.swr base rt o) s =
    store 4 (Spec.ea32 s base o) 1
      (partialCells (!s.product.bigEndian) (Spec.ea32 s base o) (wordBytes s.product.bigEndian (s.reg rt))) s := by
  change execSwr base rt o s = _
  unfold execSwr
  cases s.product.bigEndian <;> rfl

end partialStores

/-! ### Every load and store -/

/-- The instruction is the access of the form by the shared operation: a load of its destination, or a store of some bytes. -/
inductive RunsAccess (i : Instr) (s : State) : AccessForm → Prop where
  | load (d : Reg) (ea : Word) (align : Nat) (bytes : List Word) (len v : Word)
      (h : exec i s = Machine.load len d ea align bytes v s) : RunsAccess i s ⟨some d, ea, align, bytes, len⟩
  | store (ea : Word) (align : Nat) (cells : List (Word × Byte)) (len : Word)
      (h : exec i s = Machine.store len ea align cells s) : RunsAccess i s ⟨none, ea, align, cells.map (·.1), len⟩

section accesses

variable {s : State} {i : Instr}

theorem runsAccess_of_partialForm {f : AccessForm} (h : partialForm s i = some f) : RunsAccess i s f := by
  have hlen (v : Word) := length_wordBytes s.product.bigEndian v
  unfold partialForm at h
  split at h <;> cases h
  case h_1 => exact .load _ _ _ _ _ _ rfl
  case h_2 => exact .load _ _ _ _ _ _ rfl
  case h_3 base rt o =>
    rw [← map_fst_partialCells _ _ (hlen (s.reg rt))]
    exact .store _ _ _ _ (exec_swl base rt o s)
  case h_4 base rt o =>
    rw [rightBytes_eq, ← map_fst_partialCells _ _ (hlen (s.reg rt))]
    exact .store _ _ _ _ (exec_swr base rt o s)

/-- Every load and store of both ISAs, an extended one outside a delay slot, is the shared operation on its form. -/
theorem runsAccess_of_accessForm {f : AccessForm} (hslot : twoHalves i = true → s.slot = none)
    (h : accessForm s i = some f) : RunsAccess i s f := by
  rw [accessForm, Option.or_eq_some_iff, Option.or_eq_some_iff, Option.map_eq_some_iff, Option.map_eq_some_iff] at h
  obtain hpart | ⟨-, ⟨l, hload, rfl⟩ | ⟨-, st, hstore, rfl⟩⟩ := h
  · exact runsAccess_of_partialForm hpart
  · exact .load _ _ _ _ _ _ (exec_of_loadForm hslot hload)
  · rw [← length_storedBytes (s := s) hstore, ← map_fst_cellsFrom, length_storedBytes hstore]
    exact .store _ _ _ _ (exec_of_storeForm hslot hstore)

end accesses

/-! ### Where an access stops -/

section stops

variable {s : State} {i : Instr} {f : AccessForm}

theorem exec_of_addressError (hrun : RunsAccess i s f) (hmode : s.prev.changedMode = false)
    (hperm : ¬ Permitted s f.ea f.align) :
    exec i s = raise (if f.kind = .load then .adel f.ea else .ades f.ea) s := by
  cases hrun with
  | load d ea align bytes len v h => simp [h, Machine.load, hmode, access_addressError hperm, AccessForm.kind]
  | store ea align cells len h => simp [h, Machine.store, hmode, access_addressError hperm, AccessForm.kind]

theorem exec_of_reserved (hrun : RunsAccess i s f) (hmode : s.prev.changedMode = false)
    (hperm : Permitted s f.ea f.align) (hres : InReserved f.ea) (hdev : ∃ va ∈ f.bytes, s.onDevice va = false) :
    exec i s = .refused .reservedAddress := by
  cases hrun with
  | load d ea align bytes len v h => simp [h, Machine.load, hmode, access_reserved hperm hres hdev]
  | store ea align cells len h => simp [h, Machine.store, hmode, access_reserved hperm hres hdev]

theorem exec_of_changedMode (hrun : RunsAccess i s f) (hmode : s.prev.changedMode = true) :
    exec i s = .fault .modeChangeBesideAccess := by
  cases hrun with
  | load d ea align bytes len v h => simp [h, Machine.load, hmode]
  | store ea align cells len h => simp [h, Machine.store, hmode]

end stops

/-! ### The entry of an exception -/

theorem statusPushed_pushStatus (status : Word) : StatusPushed status (pushStatus status) := by
  intro i hi
  simp only [pushStatus, BitVec.getLsbD_append, BitVec.getLsbD_extractLsb']
  obtain h | h | h | h | h : i < 2 ∨ (2 ≤ i ∧ i < 6) ∨ (6 ≤ i ∧ i < 16) ∨ (16 ≤ i ∧ i < 19) ∨ 19 ≤ i := by omega
  all_goals grind

/-- The fields an entry builds Cause from (10_state.md R49). -/
def causeFields (bd : BitVec 1) (ce : BitVec 2) (sw : BitVec 4) (code : BitVec 5) : BitVec (1 + 1 + 2 + 16 + 4 + 1 + 5 + 2) :=
  bd ++ 0#1 ++ ce ++ 0#16 ++ sw ++ 0#1 ++ code ++ 0#2

/-- Each field is read back from its place. -/
theorem extractLsb'_causeFields (bd : BitVec 1) (ce : BitVec 2) (sw : BitVec 4) (code : BitVec 5) :
    (causeFields bd ce sw code).extractLsb' 31 1 = bd ∧ (causeFields bd ce sw code).extractLsb' 28 2 = ce ∧
    (causeFields bd ce sw code).extractLsb' 8 4 = sw ∧ (causeFields bd ce sw code).extractLsb' 2 5 = code := by
  simp (disch := omega) only [causeFields, BitVec.extractLsb'_append_eq_of_le, BitVec.extractLsb'_append_eq_of_add_le,
    Nat.reduceSub, BitVec.extractLsb'_eq_self, and_self]

/-- Cause after an entry, by its fields; CE is the coprocessor's number where the exception names one. -/
theorem Exn.causeAfter_eq {e : Exn} {code : BitVec 5} (bd : Bool) (s : State) (hcode : e.code = some code) :
    ∃ ce : BitVec 2, (∀ z, e = .cpu z → ce = z) ∧
      e.causeAfter bd s = causeFields (BitVec.ofBool bd) ce (s.cause.extractLsb' 8 4) code := by
  simp only [Exn.causeAfter, hcode]
  refine ⟨_, ?_, rfl⟩
  rintro z rfl
  rfl

theorem causeSet_causeAfter {e : Exn} {code : BitVec 5} {ce : Option (BitVec 2)} (bd : Bool) (s : State)
    (hcode : e.code = some code) (hce : ∀ z, ce = some z → e = .cpu z) :
    CauseSet s.cause (e.causeAfter bd s) bd ce code := by
  have hreserved := e.reserved_causeAfter bd s
  obtain ⟨unit, hunit, heq⟩ := Exn.causeAfter_eq bd s hcode
  obtain ⟨hbd, hunit', hsw, hcode'⟩ := extractLsb'_causeFields (BitVec.ofBool bd) unit (s.cause.extractLsb' 8 4) code
  rw [heq] at hreserved ⊢
  refine ⟨?bd, fun z hz => hunit'.trans (hunit z (hce z hz)), hsw, hcode', hreserved⟩
  rw [← bit_eq_getLsbD]
  refine (congrArg (· == 1#1) hbd).trans ?_
  cases bd <;> rfl

theorem restart_eq (s : State) : s.restart = (savedPc s, s.slot.isSome) := by
  unfold State.restart savedPc
  cases s.slot <;> rfl

/-- What the entries of all exceptions but NMI and the interrupts have in common (60_exceptions.md R445, R448, R453). -/
theorem Exn.entry_of_code {e : Exn} {code : BitVec 5} (hcode : e.code = some code) (hint : code ≠ 0) :
    (∀ bev : Bool, e.vector bev = if bev then 0xBFC00180 else 0x80000080) ∧
    (∀ status, e.statusAfter status = pushStatus status) ∧ (∀ config, e.configAfter config = config) ∧ (e != .nmi) = true := by
  cases e with
  | nmi => cases hcode
  | intHw | intSw => cases hcode; exact absurd rfl hint
  | adel | ades | ibe | dbe | sys | bp | ri | cpu | ov => exact ⟨fun _ => rfl, fun _ => rfl, fun _ => rfl, rfl⟩

/-- Taking an exception other than NMI and the interrupts is the entry that the statements describe. -/
theorem entered_take {e : Exn} {code : BitVec 5} {ce : Option (BitVec 2)} (s : State) (hcode : e.code = some code)
    (hint : code ≠ 0) (hce : ∀ z, ce = some z → e = .cpu z) :
    Entered s (s.take e) code ce (e.badVAddrAfter s.badVAddr) := by
  obtain ⟨hvector, hstatus, hconfig, hnmi⟩ := Exn.entry_of_code hcode hint
  refine ⟨?frame, ?status, ?cause⟩
  case frame =>
    simp only [State.take, State.takeWith, State.generalRegs, State.enterAt, restart_eq, hvector, hconfig, hnmi,
      Bool.and_true, bit_eq_getLsbD]
  case status =>
    rw [State.take_status, hstatus]
    exact statusPushed_pushStatus s.status
  case cause =>
    rw [State.take_cause, restart_eq]
    exact causeSet_causeAfter s.slot.isSome s hcode hce

/-- An instruction that raises such an exception outside debug mode takes it. -/
theorem traps_of_exec_raise {i : Instr} {s : State} {e : Exn} {code : BitVec 5} {ce : Option (BitVec 2)}
    (h : exec i s = raise e s) (hdebug : s.debugMode = false) (hcode : e.code = some code) (hint : code ≠ 0)
    (hce : ∀ z, ce = some z → e = .cpu z) : Traps i s code ce (e.badVAddrAfter s.badVAddr) :=
  ⟨s.take e, h.trans (raise_eq hdebug), entered_take s hcode hint hce⟩

/-- In debug mode an instruction's exception stops (60_exceptions.md R495(f)). -/
theorem raise_of_debugMode {e : Exn} {s : State} (h : s.debugMode = true) : raise e s = .fault .exceptionInDebugMode :=
  if_pos h

/-! ### The statement -/

/-- Settles O18: every form runs the shared load or store, whose checks come in the order of the clauses. -/
theorem addressErrors : Obligations.AddressErrors := by
  intro i s f hform hslot
  have hrun := runsAccess_of_accessForm hslot hform
  refine ⟨fun hmode hperm => ?_, exec_of_reserved hrun, exec_of_changedMode hrun⟩
  have hraise := exec_of_addressError hrun hmode hperm
  refine ⟨fun hdebug => ?_, fun hdebug => hraise.trans (raise_of_debugMode hdebug)⟩
  by_cases hkind : f.kind = .load
  · rw [if_pos hkind] at hraise ⊢
    exact traps_of_exec_raise hraise hdebug rfl (by decide) (by simp)
  · rw [if_neg hkind] at hraise ⊢
    exact traps_of_exec_raise hraise hdebug rfl (by decide) (by simp)

end Sys2Proof.Machine

/-! Instruction fetch (20_memory.md R84, R86, R92, R93, R97, R103): the statement about the code it finds and where it stops (O6). -/

namespace Sys2Proof.Machine

open Sys2Proof.Spec

/-! ### The shared shape of a fetch -/

theorem stale_iff {s : State} {vas : List Word} : s.stale vas = true ↔ ∃ va ∈ vas, Recent s va := by
  simp [State.stale]

/-- What the fetch of `n` bytes gives, where `failed` answers a bus error in debug mode and `found` a granted access. -/
def fetchBytes (s : State) (a : Word) (n : Nat) (failed found : Fetched) : Fetched :=
  match s.access .fetch a n (bytesFrom a n) with
  | .addressError => .addressError a
  | .reserved => .reserved
  | .busError => if s.debugMode then failed else .busError
  | .granted => if s.stale (bytesFrom a n) then .stale else found

theorem fetchWord_eq (s : State) (a : Word) :
    s.fetchWord a = fetchBytes s a 4 (.code (.word s.openFetch) true) (.code (.word (s.wordAt a)) false) := rfl

theorem fetchHalf_eq (s : State) (a : Word) :
    s.fetchHalf a = fetchBytes s a 2 (s.fetchRest (s.openFetch.extractLsb' 0 16) true a) (s.fetchRest (s.halfAt a) false a) := rfl

theorem fetchSecond_eq (s : State) (h0 : Half) (failed : Bool) (a : Word) :
    s.fetchSecond h0 failed a =
      fetchBytes s a 2 (.code (.pair h0 (s.openFetch.extractLsb' 16 16)) true) (.code (.pair h0 (s.halfAt a)) failed) := rfl

section fetchBytes

variable {s : State} {a : Word} {n : Nat} {failed found : Fetched}

theorem fetchBytes_addressError (h : ¬ Permitted s a n) : fetchBytes s a n failed found = .addressError a := by
  simp only [fetchBytes, access_addressError h]

theorem fetchBytes_reserved (h : Permitted s a n) (hres : InReserved a) (hdev : ∃ va ∈ bytesFrom a n, s.onDevice va = false) :
    fetchBytes s a n failed found = .reserved := by
  simp only [fetchBytes, access_reserved h hres hdev]

theorem fetchBytes_busError (h : Fetchable s a n) (hbus : s.busFails .fetch (bytesFrom a n) = true) :
    fetchBytes s a n failed found = if s.debugMode then failed else .busError := by
  simp only [fetchBytes, access_busError h.1 h.2 hbus]

theorem fetchBytes_granted (h : Fetchable s a n) (hbus : s.busFails .fetch (bytesFrom a n) = false) :
    fetchBytes s a n failed found = if s.stale (bytesFrom a n) then .stale else found := by
  simp only [fetchBytes, access_granted h.1 h.2 hbus]

theorem fetchBytes_stale (h : Fetchable s a n) (hbus : s.busFails .fetch (bytesFrom a n) = false)
    (hrecent : ∃ va ∈ bytesFrom a n, Recent s va) : fetchBytes s a n failed found = .stale := by
  rw [fetchBytes_granted h hbus, if_pos (stale_iff.mpr hrecent)]

theorem fetchBytes_found (h : Fetchable s a n) (hbus : s.busFails .fetch (bytesFrom a n) = false)
    (hrecent : ∀ va ∈ bytesFrom a n, ¬ Recent s va) : fetchBytes s a n failed found = found := by
  have hstale : ¬ s.stale (bytesFrom a n) = true := fun hs =>
    have ⟨va, hva, hr⟩ := stale_iff.mp hs
    hrecent va hva hr
  rw [fetchBytes_granted h hbus, if_neg hstale]

end fetchBytes

/-! ### The fetch at the program counter -/

section fetch

variable {s : State}

theorem fetch_of_isa32 (h : s.isa16 = false) : s.fetch = s.fetchWord s.instrAddr := by simp [State.fetch, h]

theorem fetch_of_isa16 (h : s.isa16 = true) : s.fetch = s.fetchHalf s.instrAddr := if_pos h

/-- In both ISAs the first access of the fetch is to the word, or to the first halfword, at the program counter. -/
theorem exists_fetch_eq (s : State) :
    ∃ failed found, s.fetch = fetchBytes s s.instrAddr (if s.isa16 then 2 else 4) failed found := by
  cases h : s.isa16 with
  | true => exact ⟨_, _, (fetch_of_isa16 h).trans (fetchHalf_eq s s.instrAddr)⟩
  | false => exact ⟨_, _, (fetch_of_isa32 h).trans (fetchWord_eq s s.instrAddr)⟩

theorem fetchRest_of_first {h0 : Half} (h : isFirstOfTwo h0 = true) (failed : Bool) (a : Word) :
    s.fetchRest h0 failed a = s.fetchSecond h0 failed (a + 2) := if_pos h

theorem fetchRest_of_whole {h0 : Half} (h : isFirstOfTwo h0 = false) (failed : Bool) (a : Word) :
    s.fetchRest h0 failed a = .code (.half h0) failed := by simp [State.fetchRest, h]

/-- A first halfword that is found and is half of a pair leads to the fetch of the second. -/
theorem fetch_of_first (h16 : s.isa16 = true) (hfetch : Fetchable s s.instrAddr 2)
    (hbus : s.busFails .fetch (bytesFrom s.instrAddr 2) = false) (hrecent : ∀ va ∈ bytesFrom s.instrAddr 2, ¬ Recent s va)
    (hfirst : isFirstOfTwo (s.halfAt s.instrAddr) = true) :
    s.fetch = s.fetchSecond (s.halfAt s.instrAddr) false (s.instrAddr + 2) := by
  rw [fetch_of_isa16 h16, fetchHalf_eq, fetchBytes_found hfetch hbus hrecent, fetchRest_of_first hfirst]

end fetch

/-! ### Bytes free for a fetch -/

theorem mem_bytesFrom {va a : Word} {n : Nat} (h : va ∈ bytesFrom a n) : ∃ i < n, va = a + BitVec.ofNat 32 i := by
  induction n generalizing a with
  | zero => cases h
  | succ n ih =>
    obtain rfl | hmem := List.mem_cons.mp h
    · exact ⟨0, n.succ_pos, by simp⟩
    · obtain ⟨i, hi, rfl⟩ := ih hmem
      exact ⟨i + 1, by omega, by rw [BitVec.add_assoc, BitVec.ofNat_add, BitVec.add_comm (BitVec.ofNat 32 i)]; rfl⟩

/-- The reserved ranges begin and end at multiples of 4, so aligned bytes lie in them together. -/
theorem inReserved_of_mem_bytesFrom {va a : Word} {n : Nat} (hn : n = 2 ∨ n = 4) (halign : a.toNat % n = 0)
    (hres : InReserved a) (h : va ∈ bytesFrom a n) : InReserved va := by
  obtain ⟨i, hi, rfl⟩ := mem_bytesFrom h
  have ha := a.isLt
  have hsum : (a + BitVec.ofNat 32 i).toNat = a.toNat + i := by
    rw [BitVec.toNat_add, BitVec.toNat_ofNat]
    obtain rfl | rfl := hn <;> omega
  rw [InReserved, hsum]
  obtain rfl | rfl := hn <;> omega

/-- No byte is out of reach of a fetch: none in kernel space in user mode, in a reserved range on no device, changed by a recent
store, or answered with a bus error. -/
def FreeToFetch (s : State) (vas : List Word) : Prop :=
  (∀ va ∈ vas, (s.userMode = true → va.toNat < 2 ^ 31) ∧ (InReserved va → s.onDevice va = true) ∧ ¬ Recent s va) ∧
  s.busFails .fetch vas = false

theorem freeToFetch_append {s : State} {vas vas' : List Word} :
    FreeToFetch s (vas ++ vas') ↔ FreeToFetch s vas ∧ FreeToFetch s vas' := by
  simp only [FreeToFetch, State.busFails, List.any_append, List.mem_append, or_imp, forall_and, Bool.or_eq_false_iff]
  tauto

theorem fetchBytes_of_freeToFetch {s : State} {a : Word} {n : Nat} {failed found : Fetched} (hn : n = 2 ∨ n = 4)
    (halign : a.toNat % n = 0) (h : FreeToFetch s (bytesFrom a n)) : fetchBytes s a n failed found = found := by
  obtain ⟨hfree, hbus⟩ := h
  have hself : a ∈ bytesFrom a n := by obtain rfl | rfl := hn <;> exact List.mem_cons_self
  have hdev (hres : InReserved a) (va : Word) (hva : va ∈ bytesFrom a n) : s.onDevice va = true :=
    (hfree va hva).2.1 (inReserved_of_mem_bytesFrom hn halign hres hva)
  exact fetchBytes_found ⟨⟨halign, (hfree a hself).1⟩, hdev⟩ hbus fun va hva => (hfree va hva).2.2

/-! ### Bytes in memory -/

/-- The bytes stand from the address up. -/
def Stands (s : State) (a : Word) (bytes : List Byte) : Prop :=
  ∀ n b, bytes[n]? = some b → s.byteAt (a + BitVec.ofNat 32 n) = b

theorem stands_append {s : State} {a : Word} {bs bs' : List Byte} (h : Stands s a (bs ++ bs')) :
    Stands s a bs ∧ Stands s (a + BitVec.ofNat 32 bs.length) bs' := by
  refine ⟨fun n b hn => h n b ?_, fun n b hn => ?_⟩
  · obtain ⟨hlt, -⟩ := List.getElem?_eq_some_iff.mp hn
    rw [List.getElem?_append_left hlt, hn]
  · have hat := h (bs.length + n) b (by rw [List.getElem?_append_right (by omega), Nat.add_sub_cancel_left, hn])
    rwa [BitVec.ofNat_add, ← BitVec.add_assoc] at hat

/-- The halfword its bytes hold is the halfword (20_memory.md R82). -/
theorem halfOf_of_halfBytes {big : Bool} {h : Half} {b0 b1 : Byte} (hb : halfBytes big h = [b0, b1]) :
    halfOf big b0 b1 = h := by
  have hjoin : (h.extractLsb' 8 8 ++ h.extractLsb' 0 8 : Half) = h := by
    apply BitVec.eq_of_getLsbD_eq
    intro i hi
    simp only [BitVec.getLsbD_append, BitVec.getLsbD_extractLsb']
    grind
  cases big <;> cases hb <;> exact hjoin

/-- The word its bytes hold is the word (20_memory.md R83). -/
theorem wordOf_of_wordBytes {big : Bool} {w : Word} {b0 b1 b2 b3 : Byte} (hb : wordBytes big w = [b0, b1, b2, b3]) :
    wordOf big b0 b1 b2 b3 = w := by
  have hjoin : (w.extractLsb' 24 8 ++ w.extractLsb' 16 8 ++ w.extractLsb' 8 8 ++ w.extractLsb' 0 8 : Word) = w := by
    apply BitVec.eq_of_getLsbD_eq
    intro i hi
    simp only [BitVec.getLsbD_append, BitVec.getLsbD_extractLsb']
    grind
  cases big <;> cases hb <;> exact hjoin

section stands

variable {s : State} {a : Word}

theorem halfAt_of_stands {h : Half} (hs : Stands s a (halfBytes s.product.bigEndian h)) : s.halfAt a = h := by
  obtain ⟨b0, b1, hb⟩ := List.length_eq_two.mp (length_halfBytes s.product.bigEndian h)
  rw [hb] at hs
  have h0 : s.byteAt a = b0 := by simpa using hs 0 b0 rfl
  have h1 : s.byteAt (a + 1) = b1 := hs 1 b1 rfl
  rw [State.halfAt, h0, h1, halfOf_of_halfBytes hb]

theorem exists_wordBytes_eq (big : Bool) (w : Word) : ∃ b0 b1 b2 b3, wordBytes big w = [b0, b1, b2, b3] := by
  cases big <;> exact ⟨_, _, _, _, rfl⟩

theorem wordAt_of_stands {w : Word} (hs : Stands s a (wordBytes s.product.bigEndian w)) : s.wordAt a = w := by
  obtain ⟨b0, b1, b2, b3, hb⟩ := exists_wordBytes_eq s.product.bigEndian w
  rw [hb] at hs
  have h0 : s.byteAt a = b0 := by simpa using hs 0 b0 rfl
  have h1 : s.byteAt (a + 1) = b1 := hs 1 b1 rfl
  have h2 : s.byteAt (a + 2) = b2 := hs 2 b2 rfl
  have h3 : s.byteAt (a + 3) = b3 := hs 3 b3 rfl
  rw [State.wordAt, h0, h1, h2, h3, wordOf_of_wordBytes hb]

end stands

/-! ### The code of an instruction -/

/-- The code is marked as what it is: its first halfword starts a pair where it is one, and none where it stands alone. -/
def Code.Marked : Code → Prop
  | .word _ => True
  | .half h => isFirstOfTwo h = false
  | .pair h0 _ => isFirstOfTwo h0 = true

/-- A halfword that starts no pair has neither the opcode of JAL and JALX nor that of EXTEND (30_encoding.md R141). -/
theorem isFirstOfTwo_eq_false {h : Half} (hjal : op16Field h ≠ 0b00011#5) (hext : op16Field h ≠ 0b11110#5) :
    isFirstOfTwo h = false := by
  simp [isFirstOfTwo, hjal, hext]

theorem marked_encode (i : Instr) : Code.Marked (encode i) := by
  cases i with
  | lb16 | lbu16 | lh16 | lhu16 | lw16 | lwpc | lwsp | sb16 | sh16 | sw16 | swsp | swrasp | addiu3 | addiupc | addiu8 | addiusp
  | adjsp | addu16 | subu16 | neg16 | slt16 | sltu16 | slti16 | sltiu16 | movr32 | mov32r | cmp16 | cmpi16 | and16 | or16 | xor16
  | not16 | li16 | sll16 | srl16 | sra16 | sllv16 | srlv16 | srav16 | mult16 | multu16 | div16 | divu16 | mfhi16 | mflo16 | jr16
  | jrra | jalr16 | beqz | bnez | bteqz | btnez | b | brk16 | sdbbp16 => exact isFirstOfTwo_eq_false (by simp) (by simp)
  | jal16 | jalx16 | extend | lbE | lbuE | lhE | lhuE | lwE | lwpcE | lwspE | sbE | shE | swE | swspE | swraspE | addiu3E
  | addiupcE | addiu8E | addiuspE | adjspE | sltiE | sltiuE | cmpiE | liE | sllE | srlE | sraE | beqzE | bnezE | bteqzE | btnezE
  | bE => simp [encode, extPair, extShift, Code.Marked, isFirstOfTwo]
  | _ => trivial

/-! ### The fetch of a code -/

section fetchCode

variable {s : State}

theorem instrAddr_even (s : State) : s.instrAddr.toNat % 2 = 0 := by
  have hmod := @Nat.and_mod_two_pow s.pc.toNat (0xFFFFFFFE#32).toNat 1
  simpa [State.instrAddr] using hmod

theorem fetch_word {w : Word} (h32 : s.isa16 = false) (halign : s.instrAddr.toNat % 4 = 0)
    (hfree : FreeToFetch s (bytesFrom s.instrAddr 4)) (hs : Stands s s.instrAddr (wordBytes s.product.bigEndian w)) :
    s.fetch = .code (.word w) false := by
  rw [fetch_of_isa32 h32, fetchWord_eq, fetchBytes_of_freeToFetch (.inr rfl) halign hfree, wordAt_of_stands hs]

/-- The first halfword is found, and with it the fetch goes on. -/
theorem fetch_halfword {h0 : Half} (h16 : s.isa16 = true) (hfree : FreeToFetch s (bytesFrom s.instrAddr 2))
    (hs : Stands s s.instrAddr (halfBytes s.product.bigEndian h0)) : s.fetch = s.fetchRest h0 false s.instrAddr := by
  rw [fetch_of_isa16 h16, fetchHalf_eq, fetchBytes_of_freeToFetch (.inl rfl) (instrAddr_even s) hfree, halfAt_of_stands hs]

theorem fetch_pair {h0 h1 : Half} (hfirst : isFirstOfTwo h0 = true) (h16 : s.isa16 = true)
    (hfree : FreeToFetch s (bytesFrom s.instrAddr 4))
    (hs : Stands s s.instrAddr (halfBytes s.product.bigEndian h0 ++ halfBytes s.product.bigEndian h1)) :
    s.fetch = .code (.pair h0 h1) false := by
  have hsplit : bytesFrom s.instrAddr 4 = bytesFrom s.instrAddr 2 ++ bytesFrom (s.instrAddr + 2) 2 := by
    simp [bytesFrom, BitVec.add_assoc]
  rw [hsplit, freeToFetch_append] at hfree
  obtain ⟨hfree0, hfree1⟩ := hfree
  obtain ⟨hs0, hs1⟩ := stands_append hs
  rw [length_halfBytes] at hs1
  have heven : (s.instrAddr + 2).toNat % 2 = 0 := by
    have h := instrAddr_even s
    rw [BitVec.toNat_add]
    change (s.instrAddr.toNat + 2) % 2 ^ 32 % 2 = 0
    omega
  rw [fetch_halfword h16 hfree0 hs0, fetchRest_of_first hfirst, fetchSecond_eq,
    fetchBytes_of_freeToFetch (.inl rfl) heven hfree1]
  exact congrArg (fun h => Fetched.code (.pair h0 h) false) (halfAt_of_stands hs1)

/-- A marked code that stands at the program counter, with its own ISA mode and no byte out of reach, is fetched. -/
theorem fetch_of_stands {c : Code} (hmarked : Code.Marked c) (hmode : s.isa16 = c.isa16)
    (halign : s.isa16 = false → s.instrAddr.toNat % 4 = 0)
    (hfree : FreeToFetch s (bytesFrom s.instrAddr (c.bytes s.product.bigEndian).length))
    (hs : Stands s s.instrAddr (c.bytes s.product.bigEndian)) : s.fetch = .code c false := by
  cases c with
  | word w =>
    rw [Code.bytes, length_wordBytes] at hfree
    exact fetch_word hmode (halign hmode) hfree hs
  | half h =>
    rw [Code.bytes, length_halfBytes] at hfree
    rw [fetch_halfword hmode hfree hs, fetchRest_of_whole hmarked]
  | pair h0 h1 =>
    rw [Code.bytes, List.length_append, length_halfBytes, length_halfBytes] at hfree
    exact fetch_pair hmarked hmode hfree hs

end fetchCode

/-! ### The statement -/

/-- Settles O6: every instruction's code is marked, so the fetch finds it; the stops are those of the first access, and behind a
first halfword those of the second. -/
theorem fetchReadsStoredInstruction : Obligations.FetchReadsStoredInstruction := by
  refine ⟨?found, ?firstAccess, ?secondHalfword⟩
  case found =>
    intro s i bytes own _ hmode halign hfree hbus hs
    exact fetch_of_stands (marked_encode i) hmode halign ⟨hfree, hbus⟩ hs
  case firstAccess =>
    intro s own hperm
    obtain ⟨failed, found, hfetch⟩ := exists_fetch_eq s
    rw [hfetch]
    exact ⟨fetchBytes_reserved hperm, fun hdev => fetchBytes_stale ⟨hperm, hdev⟩⟩
  case secondHalfword =>
    intro s a h16 hfetch hbus hrecent hfirst
    rw [fetch_of_first h16 hfetch hbus hrecent hfirst, fetchSecond_eq]
    exact ⟨fetchBytes_addressError, fetchBytes_reserved, fetchBytes_stale⟩

end Sys2Proof.Machine

/-! Exceptions of a fetch (60_exceptions.md R450, R465, R466, R495): which fetches meet one and what the step does then (O57). -/

namespace Sys2Proof.Machine

open Sys2Proof.Spec

/-! ### The boundary of a running core -/

section boundary

variable {s : State}

theorem boundary_of_running (h : Running s) : boundary s = dispatchNext s := by
  obtain ⟨hslot, hstopped, -, hsingle⟩ := h
  have hnone : s.slot.filter (·.nullify) = none := by
    rw [Option.filter_eq_none_iff]
    intro k hk
    simp [hslot k hk]
  simp [boundary, hnone, hstopped, runBoundary, hsingle]

theorem step_of_running (hreset : s.resetDue = false) (h : Running s.sample) : step s = dispatchNext s.sample := by
  rw [step, hreset]
  exact boundary_of_running h

theorem dispatchNext_busError (hfetch : s.fetch = .busError) : dispatchNext s = raise .ibe s := by
  simp [dispatchNext, hfetch, runFetched]

/-- An NMI and the maskable interrupts wait in debug mode (60_exceptions.md R495(c)). -/
theorem nmiDue_of_debugMode (h : s.debugMode = true) : s.nmiDue = false := by simp [State.nmiDue, h]

theorem acceptedInterrupt_of_debugMode (h : s.debugMode = true) : s.acceptedInterrupt = none := by
  have hoff : s.interruptsEnabled = false := by simp [State.interruptsEnabled, h]
  simp [State.acceptedInterrupt, State.hwAcceptable, State.swAcceptable, hoff]

/-- An exception of the next instruction outranks a maskable interrupt (60_exceptions.md R450). -/
theorem takeInterrupt_addressError {e : Exn} {va : Word} (h : s.debugMode = false) :
    takeInterrupt e (.addressError va) s = .next (s.take (.adel va)) := by
  simp [takeInterrupt, runFetched, raise_eq h, Fetched.isSdbbp, takesException]

/-- An address error of the fetch comes next where no data bus error and no NMI does. -/
theorem dispatchNext_addressError {va : Word} (hdbe : s.dbeDue = none) (hnmi : s.nmiDue = false)
    (hfetch : s.fetch = .addressError va) : dispatchNext s = raise (.adel va) s := by
  cases hdebug : s.debugMode with
  | true => simp [dispatchNext, hfetch, hdbe, hnmi, acceptedInterrupt_of_debugMode hdebug, runFetched]
  | false =>
    cases hint : s.acceptedInterrupt with
    | none => simp [dispatchNext, hfetch, hdbe, hnmi, hint, runFetched]
    | some e => simp [dispatchNext, hfetch, hdbe, hnmi, hint, takeInterrupt_addressError hdebug, raise_eq hdebug]

end boundary

/-! ### Which fetches meet an exception -/

section fetch

variable {s : State}

theorem fetch_addressError
    (h : (s.isa16 = false ∧ s.instrAddr.toNat % 4 ≠ 0) ∨ (s.userMode = true ∧ 2 ^ 31 ≤ s.instrAddr.toNat)) :
    s.fetch = .addressError s.instrAddr := by
  obtain ⟨failed, found, hfetch⟩ := exists_fetch_eq s
  rw [hfetch]
  refine fetchBytes_addressError fun ⟨halign, huser⟩ => ?_
  obtain ⟨h32, hne⟩ | ⟨hmode, hhigh⟩ := h
  · rw [h32] at halign
    exact hne halign
  · exact Nat.not_lt.mpr hhigh (huser hmode)

theorem fetchWord_busError {a : Word} (hfetch : Fetchable s a 4) (hbus : s.busFails .fetch (bytesFrom a 4) = true) :
    s.fetchWord a = if s.debugMode then .code (.word s.openFetch) true else .busError :=
  fetchBytes_busError hfetch hbus

theorem fetchHalf_busError {a : Word} (hfetch : Fetchable s a 2) (hbus : s.busFails .fetch (bytesFrom a 2) = true) :
    s.fetchHalf a = if s.debugMode then s.fetchRest (s.openFetch.extractLsb' 0 16) true a else .busError :=
  fetchBytes_busError hfetch hbus

theorem fetchSecond_busError {h0 : Half} {failed : Bool} {a : Word} (hfetch : Fetchable s a 2)
    (hbus : s.busFails .fetch (bytesFrom a 2) = true) :
    s.fetchSecond h0 failed a =
      if s.debugMode then .code (.pair h0 (s.openFetch.extractLsb' 16 16)) true else .busError :=
  fetchBytes_busError hfetch hbus

/-- Behind a failed first halfword in debug mode the second may fail too; either way the code found is marked as failed. -/
theorem exists_fetchRest_failed (hdebug : s.debugMode = true) (h0 : Half) {a : Word} (hfetch : Fetchable s (a + 2) 2)
    (hrecent : ∀ va ∈ bytesFrom (a + 2) 2, ¬ Recent s va) :
    ∃ k, s.fetchRest h0 true a = .code (if isFirstOfTwo h0 then .pair h0 k else .half h0) true := by
  cases hfirst : isFirstOfTwo h0 with
  | false => exact ⟨0, fetchRest_of_whole hfirst true a⟩
  | true =>
    rw [fetchRest_of_first hfirst]
    cases hbus : s.busFails .fetch (bytesFrom (a + 2) 2) with
    | true => exact ⟨_, by rw [fetchSecond_busError hfetch hbus, if_pos hdebug]; rfl⟩
    | false => exact ⟨_, by rw [fetchSecond_eq, fetchBytes_found hfetch hbus hrecent]; rfl⟩

end fetch

/-! ### The statement -/

/-- Settles O57: the boundary passes the exception of the fetch on, and the shared shape of a fetch says which one it is. -/
theorem fetchExceptions : Obligations.FetchExceptions := by
  intro s u a
  refine ⟨fun hreset hrun => ⟨?ibe, ?adel⟩, fetch_addressError, ?word, ?half, ?second⟩
  case ibe =>
    intro hdebug hfetch
    rw [step_of_running hreset hrun, dispatchNext_busError hfetch, raise_eq hdebug]
  case adel =>
    intro va hfetch
    have ⟨_, _, hdbe, _⟩ := hrun
    refine ⟨fun hdebug hnmi => ?_, fun hdebug => ?_⟩
    · have hdue : u.nmiDue = false := by simp [State.nmiDue, hnmi]
      rw [step_of_running hreset hrun, dispatchNext_addressError hdbe hdue hfetch, raise_eq hdebug]
    · rw [step_of_running hreset hrun, dispatchNext_addressError hdbe (nmiDue_of_debugMode hdebug) hfetch,
        raise_of_debugMode hdebug]
  case word =>
    intro h32 hfetch hbus
    exact ⟨u.openFetch, (fetch_of_isa32 h32).trans (fetchWord_busError hfetch hbus)⟩
  case half =>
    intro h16 hfetch hbus
    rw [fetch_of_isa16 h16, fetchHalf_busError hfetch hbus]
    refine ⟨fun hdebug => by rw [hdebug]; rfl, fun hdebug hfetch1 hrecent => ?_⟩
    rw [if_pos hdebug]
    exact ⟨_, exists_fetchRest_failed hdebug _ hfetch1 hrecent⟩
  case second =>
    intro h16 hfetch hbus hrecent hfirst hfetch1 hbus1
    exact ⟨_, (fetch_of_first h16 hfetch hbus hrecent hfirst).trans (fetchSecond_busError hfetch1 hbus1)⟩

end Sys2Proof.Machine

/-! The formats of both instruction sets (30_encoding.md R120, R126, R135 to R140): a word or halfword is of a format with given
operands exactly where its fields hold them. The proofs join the fields again with `extractLsb'_append_extractLsb'_eq_extractLsb'`;
`Nat.reduceAdd` stays off there, for the widths of the joined parts are sums. -/

namespace Sys2Proof.Machine

open Sys2Proof.Laws

/-! ### The parts of a join -/

section join

variable {n m k : Nat} {a : BitVec n} {b : BitVec m} {c : BitVec k}

theorem extractLsb'_join_mid : (a ++ b ++ c).extractLsb' k m = b := by
  rw [BitVec.extractLsb'_append_eq_of_le le_rfl, Nat.sub_self, BitVec.extractLsb'_append_eq_right]

theorem extractLsb'_join_high : (a ++ b ++ c).extractLsb' (k + m) n = a := by
  rw [BitVec.extractLsb'_append_eq_of_le (by omega), Nat.add_sub_cancel_left, BitVec.extractLsb'_append_eq_left]

end join

/-! ### The formats of the 32-bit ISA -/

section words

variable {w : Word} {op fn : BitVec 6} {z : BitVec 2} {rs rt rd : Reg} {sa : BitVec 5} {imm : BitVec 16}
  {code : BitVec 20} {cofun : BitVec 25} {target : BitVec 26}

theorem iWord_eq_iff : iWord op rs rt imm = w ↔ opField w = op ∧ rsField w = rs ∧ rtField w = rt ∧ immField w = imm := by
  refine ⟨by rintro rfl; simp, ?_⟩
  rintro ⟨rfl, rfl, rfl, rfl⟩
  simp only [iWord, opField, rsField, rtField, immField, BitVec.extractLsb'_append_extractLsb'_eq_extractLsb', -Nat.reduceAdd]
  exact BitVec.extractLsb'_eq_self

theorem rWord_eq_iff : rWord op rs rt rd sa fn = w ↔
    opField w = op ∧ rsField w = rs ∧ rtField w = rt ∧ rdField w = rd ∧ saField w = sa ∧ fnField w = fn := by
  refine ⟨by rintro rfl; simp, ?_⟩
  rintro ⟨rfl, rfl, rfl, rfl, rfl, rfl⟩
  simp only [rWord, opField, rsField, rtField, rdField, saField, fnField,
    BitVec.extractLsb'_append_extractLsb'_eq_extractLsb', -Nat.reduceAdd]
  exact BitVec.extractLsb'_eq_self

theorem jWord_eq_iff : jWord op target = w ↔ opField w = op ∧ targetField w = target := by
  refine ⟨by rintro rfl; simp, ?_⟩
  rintro ⟨rfl, rfl⟩
  exact BitVec.extractLsb'_append_extractLsb'

theorem codeWord_eq_iff : codeWord code fn = w ↔ opField w = 0#6 ∧ codeField w = code ∧ fnField w = fn := by
  refine ⟨by rintro rfl; simp, ?_⟩
  rintro ⟨hop, rfl, rfl⟩
  simp only [codeWord, ← hop, opField, codeField, fnField,
    BitVec.extractLsb'_append_extractLsb'_eq_extractLsb', -Nat.reduceAdd]
  exact BitVec.extractLsb'_eq_self

theorem zWord_eq_iff {op : BitVec 4} : zWord op z rs rt imm = w ↔
    opField w = (op ++ z : BitVec 6) ∧ rsField w = rs ∧ rtField w = rt ∧ immField w = imm :=
  iWord_eq_iff (op := op ++ z)

theorem copWord_eq_iff : copWord z rs rt rd = w ↔
    opField w = (4#4 ++ z : BitVec 6) ∧ rsField w = rs ∧ rtField w = rt ∧ rdField w = rd ∧ w.extractLsb' 0 11 = 0#11 := by
  refine ⟨by rintro rfl; simp, ?_⟩
  rintro ⟨hop, rfl, rfl, rfl, hzero⟩
  simp only [copWord, ← hop, ← hzero, opField, rsField, rtField, rdField,
    BitVec.extractLsb'_append_extractLsb'_eq_extractLsb', -Nat.reduceAdd]
  exact BitVec.extractLsb'_eq_self

theorem cofunWord_bit : (cofunWord z cofun).extractLsb' 25 1 = 1#1 := by
  change @BitVec.extractLsb' (4 + 2 + 1 + 25) 25 1 (0b0100#4 ++ z ++ 1#1 ++ cofun) = _
  simp (disch := omega) only [BitVec.extractLsb'_append_eq_of_le, BitVec.extractLsb'_append_eq_of_add_le,
    Nat.reduceSub, BitVec.extractLsb'_eq_self]

theorem cofunWord_eq_iff : cofunWord z cofun = w ↔
    opField w = (4#4 ++ z : BitVec 6) ∧ w.extractLsb' 25 1 = 1#1 ∧ cofunField w = cofun := by
  refine ⟨by rintro rfl; simp [cofunWord_bit], ?_⟩
  rintro ⟨hop, hbit, rfl⟩
  simp only [cofunWord, ← hop, ← hbit, opField, cofunField,
    BitVec.extractLsb'_append_extractLsb'_eq_extractLsb', -Nat.reduceAdd]
  exact BitVec.extractLsb'_eq_self

theorem opField_eq_append (w : Word) : opField w = w.extractLsb' 28 4 ++ zField w :=
  (BitVec.extractLsb'_append_extractLsb'_eq_extractLsb' (x := w) (start₁ := 26) (len₁ := 2) (len₂ := 4) rfl).symm

theorem zField_eq (w : Word) : zField w = (opField w).extractLsb' 0 2 := by
  rw [opField_eq_append]
  exact BitVec.extractLsb'_append_eq_right.symm

/-- The sub-opcodes from 16 up are those with bit 25 set (30_encoding.md R126). -/
theorem bit25_of_rsField (h : 16 ≤ (rsField w).toNat) : w.extractLsb' 25 1 = 1#1 := by
  have hrs : rsField w = w.extractLsb' 25 1 ++ w.extractLsb' 21 4 :=
    (BitVec.extractLsb'_append_extractLsb'_eq_extractLsb' (x := w) (start₁ := 21) (len₁ := 4) (len₂ := 1) rfl).symm
  rw [hrs] at h
  generalize w.extractLsb' 21 4 = low at h
  revert h
  generalize w.extractLsb' 25 1 = high
  revert high low
  decide

end words

/-! ### The formats of the 16-bit ISA -/

section halves

variable {h : Half} {op f5 : BitVec 5} {rx ry rz : Reg3} {f : BitVec 2} {imm4 : BitVec 4} {imm5 : BitVec 5} {imm8 : BitVec 8}
  {imm11 : BitVec 11} {imm15 : BitVec 15} {imm16 : BitVec 16} {r32 : Reg} {code : BitVec 6} {x : BitVec 1} {target : BitVec 26}

theorem riHalf_eq_iff : riHalf op rx imm8 = h ↔ op16Field h = op ∧ rxField h = rx ∧ imm8Field h = imm8 := by
  refine ⟨by rintro rfl; simp, ?_⟩
  rintro ⟨rfl, rfl, rfl⟩
  simp only [riHalf, op16Field, rxField, imm8Field, BitVec.extractLsb'_append_extractLsb'_eq_extractLsb', -Nat.reduceAdd]
  exact BitVec.extractLsb'_eq_self

theorem rriHalf_eq_iff :
    rriHalf op rx ry imm5 = h ↔ op16Field h = op ∧ rxField h = rx ∧ ryField h = ry ∧ imm5Field h = imm5 := by
  refine ⟨by rintro rfl; simp, ?_⟩
  rintro ⟨rfl, rfl, rfl, rfl⟩
  simp only [rriHalf, op16Field, rxField, ryField, imm5Field,
    BitVec.extractLsb'_append_extractLsb'_eq_extractLsb', -Nat.reduceAdd]
  exact BitVec.extractLsb'_eq_self

theorem rrrHalf_eq_iff : rrrHalf op rx ry rz f = h ↔
    op16Field h = op ∧ rxField h = rx ∧ ryField h = ry ∧ rzField h = rz ∧ h.extractLsb' 0 2 = f := by
  refine ⟨by rintro rfl; simp, ?_⟩
  rintro ⟨rfl, rfl, rfl, rfl, rfl⟩
  simp only [rrrHalf, op16Field, rxField, ryField, rzField,
    BitVec.extractLsb'_append_extractLsb'_eq_extractLsb', -Nat.reduceAdd]
  exact BitVec.extractLsb'_eq_self

theorem rriaHalf_eq_iff : rriaHalf rx ry imm4 = h ↔
    op16Field h = 8#5 ∧ rxField h = rx ∧ ryField h = ry ∧ h.extractLsb' 4 1 = 0#1 ∧ h.extractLsb' 0 4 = imm4 := by
  refine ⟨by rintro rfl; simp, ?_⟩
  rintro ⟨hop, rfl, rfl, hbit, rfl⟩
  simp only [rriaHalf, ← hop, ← hbit, op16Field, rxField, ryField,
    BitVec.extractLsb'_append_extractLsb'_eq_extractLsb', -Nat.reduceAdd]
  exact BitVec.extractLsb'_eq_self

theorem mov32rHalf_eq_iff : mov32rHalf r32 rz = h ↔
    op16Field h = 12#5 ∧ rxField h = 5#3 ∧ (h.extractLsb' 3 2 ++ h.extractLsb' 5 3 : Reg) = r32 ∧ h.extractLsb' 0 3 = rz := by
  refine ⟨by rintro rfl; simpa using join_r32 r32, ?_⟩
  rintro ⟨hop, hrx, rfl, rfl⟩
  have hhigh : (h.extractLsb' 3 2 ++ h.extractLsb' 5 3).extractLsb' 3 2 = h.extractLsb' 3 2 := BitVec.extractLsb'_append_eq_left
  have hlow : (h.extractLsb' 3 2 ++ h.extractLsb' 5 3).extractLsb' 0 3 = h.extractLsb' 5 3 := BitVec.extractLsb'_append_eq_right
  rw [mov32rHalf, hhigh, hlow, ← hop, ← hrx]
  simp only [op16Field, rxField, BitVec.extractLsb'_append_extractLsb'_eq_extractLsb', -Nat.reduceAdd]
  exact BitVec.extractLsb'_eq_self

theorem iHalf_eq_iff : iHalf op imm11 = h ↔ op16Field h = op ∧ h.extractLsb' 0 11 = imm11 := by
  refine ⟨by rintro rfl; simp, ?_⟩
  rintro ⟨rfl, rfl⟩
  exact BitVec.extractLsb'_append_extractLsb'

theorem code6Half_eq_iff : code6Half code f5 = h ↔ op16Field h = 29#5 ∧ code6Field h = code ∧ imm5Field h = f5 := by
  refine ⟨by rintro rfl; simp, ?_⟩
  rintro ⟨hop, rfl, rfl⟩
  simp only [code6Half, ← hop, op16Field, code6Field, imm5Field,
    BitVec.extractLsb'_append_extractLsb'_eq_extractLsb', -Nat.reduceAdd]
  exact BitVec.extractLsb'_eq_self

theorem extHalf_eq_iff : extHalf imm16 = h ↔
    op16Field h = 30#5 ∧ h.extractLsb' 5 6 = imm16.extractLsb' 5 6 ∧ h.extractLsb' 0 5 = imm16.extractLsb' 11 5 := by
  refine ⟨by rintro rfl; simp, ?_⟩
  rintro ⟨hop, hmid, hhigh⟩
  simp only [extHalf, ← hop, ← hmid, ← hhigh, op16Field, BitVec.extractLsb'_append_extractLsb'_eq_extractLsb', -Nat.reduceAdd]
  exact BitVec.extractLsb'_eq_self

theorem extAHalf_eq_iff : extAHalf imm15 = h ↔
    op16Field h = 30#5 ∧ h.extractLsb' 4 7 = imm15.extractLsb' 4 7 ∧ h.extractLsb' 0 4 = imm15.extractLsb' 11 4 := by
  refine ⟨by rintro rfl; simp, ?_⟩
  rintro ⟨hop, hmid, hhigh⟩
  simp only [extAHalf, ← hop, ← hmid, ← hhigh, op16Field,
    BitVec.extractLsb'_append_extractLsb'_eq_extractLsb', -Nat.reduceAdd]
  exact BitVec.extractLsb'_eq_self

theorem extShiftHalf_eq_iff : extShiftHalf imm5 = h ↔
    op16Field h = 30#5 ∧ h.extractLsb' 6 5 = imm5 ∧ h.extractLsb' 0 6 = 0#6 := by
  refine ⟨by rintro rfl; simp, ?_⟩
  rintro ⟨hop, rfl, hzero⟩
  simp only [extShiftHalf, ← hop, ← hzero, op16Field, BitVec.extractLsb'_append_extractLsb'_eq_extractLsb', -Nat.reduceAdd]
  exact BitVec.extractLsb'_eq_self

theorem jal16Half_eq_iff : jal16Half x target = h ↔
    op16Field h = 3#5 ∧ h.extractLsb' 10 1 = x ∧ h.extractLsb' 5 5 = target.extractLsb' 16 5 ∧
      h.extractLsb' 0 5 = target.extractLsb' 21 5 := by
  refine ⟨by rintro rfl; simp, ?_⟩
  rintro ⟨hop, rfl, hmid, hhigh⟩
  simp only [jal16Half, ← hop, ← hmid, ← hhigh, op16Field,
    BitVec.extractLsb'_append_extractLsb'_eq_extractLsb', -Nat.reduceAdd]
  exact BitVec.extractLsb'_eq_self

theorem code6Field_eq_append (h : Half) : code6Field h = rxField h ++ ryField h :=
  (BitVec.extractLsb'_append_extractLsb'_eq_extractLsb' (x := h) (start₁ := 5) (len₁ := 3) (len₂ := 3) rfl).symm

theorem code6Field_eq_zero_iff : code6Field h = 0#6 ↔ rxField h = 0#3 ∧ ryField h = 0#3 := by
  rw [code6Field_eq_append]
  generalize rxField h = hi
  generalize ryField h = lo
  revert hi lo
  decide

end halves

end Sys2Proof.Machine

/-! The encodings that are no instruction (30_encoding.md R123 to R128, R148) and the register numbers of the 16-bit ISA (R136): the
statements about them (O4, O5). -/

namespace Sys2Proof.Machine

open Sys2Proof.Laws

/-- Settles O5: the eight register numbers one by one. -/
theorem registerMap16 : Obligations.RegisterMap16 := by
  unfold Obligations.RegisterMap16
  decide

/-! ### Which group a code goes to -/

section groups

variable {w : Word} {h : Half}

theorem decode32_of_special (hop : opField w = 0#6) : decode32 w = decodeSpecial w := by simp [decode32, hop]

theorem decode32_of_bcond (hop : opField w = 1#6) : decode32 w = decodeBcond w := by simp [decode32, hop]

theorem decode32_of_madd (hop : opField w = 28#6) : decode32 w = decodeMadd w := by simp [decode32, hop]

theorem decode32_of_cop (hop : opField w = (4#4 ++ zField w : BitVec 6)) : decode32 w = decodeCop w := by
  obtain hz | hz | hz | hz := copNumber_cases (zField w) <;> simp [decode32, hop, hz]

theorem decodeCop_of_bcz (hrs : rsField w = 8#5) : decodeCop w = decodeBcz w := by simp [decodeCop, hrs]

theorem decode16_of_i8 (hop : op16Field h = 12#5) : decode16 h = decodeI8 h := by simp [decode16, hop]

theorem decode16_of_rr (hop : op16Field h = 29#5) : decode16 h = decodeRr h := by simp [decode16, hop]

theorem decodeRr_of_jr (hf : imm5Field h = 0#5) : decodeRr h = decodeJr16 h := by simp [decodeRr, hf]

end groups

/-! ### The statement -/

/-- Settles O4: each clause names its group, and in the group's table the numbers of the clause are in no row but the last. -/
theorem reservedEncodings : Obligations.ReservedEncodings := by
  refine ⟨?opcodes, ?special, ?bcond, ?madd, ?cop, ?opcodes16, ?shift, ?addiu3, ?rrr, ?i8, ?rr, ?jr⟩
  case opcodes =>
    intro w (hop : (opField w).toNat ∈ _)
    unfold decode32
    generalize (opField w).toNat = n at hop
    fin_cases hop <;> rfl
  case special =>
    intro w hop (hfn : (fnField w).toNat ∈ _ ∨ _ ≤ (fnField w).toNat)
    rw [decode32_of_special hop, decodeSpecial]
    generalize (fnField w).toNat = n at hfn
    split
    case h_31 => rfl
    all_goals simp at hfn
  case bcond =>
    intro w hop (hrt : (rtField w).toNat ∉ _)
    rw [decode32_of_bcond hop, decodeBcond]
    generalize (rtField w).toNat = n at hrt
    split
    case h_9 => rfl
    all_goals simp at hrt
  case madd =>
    intro w hop (hfn : 2 ≤ (fnField w).toNat)
    rw [decode32_of_madd hop, decodeMadd]
    generalize (fnField w).toNat = n at hfn
    split
    case h_3 => rfl
    all_goals simp at hfn
  case cop =>
    intro w hgroup (h : (rsField w).toNat ∈ _ ∨ rsField w = 8#5 ∧ 4 ≤ (rtField w).toNat)
    rw [decode32_of_cop (by rw [opField_eq_append, hgroup])]
    obtain hrs | ⟨hrs, hrt⟩ := h
    · unfold decodeCop
      generalize (rsField w).toNat = n at hrs
      fin_cases hrs <;> rfl
    · rw [decodeCop_of_bcz hrs, decodeBcz]
      generalize (rtField w).toNat = n at hrt
      split
      case h_5 => rfl
      all_goals simp at hrt
  case opcodes16 =>
    intro h (hop : (op16Field h).toNat ∈ _)
    unfold decode16
    generalize (op16Field h).toNat = n at hop
    fin_cases hop <;> rfl
  case shift =>
    intro h (hop : op16Field h = 6#5) hf
    simp [decode16, hop, hf]
  case addiu3 =>
    intro h (hop : op16Field h = 8#5) hf
    simp [decode16, hop, hf]
  case rrr =>
    intro h (hop : op16Field h = 28#5) hf
    have hjoin : h.extractLsb' 0 2 = h.extractLsb' 1 1 ++ h.extractLsb' 0 1 :=
      (BitVec.extractLsb'_append_extractLsb'_eq_extractLsb' (x := h) (start₁ := 0) (len₁ := 1) (len₂ := 1) rfl).symm
    obtain hbit | hbit := BitVec.eq_zero_or_eq_one (h.extractLsb' 1 1) <;> simp [decode16, hop, hjoin, hf, hbit]
  case i8 =>
    intro h hop (hrx : (rxField h).toNat ∈ _)
    rw [decode16_of_i8 hop, decodeI8]
    generalize (rxField h).toNat = n at hrx
    fin_cases hrx <;> rfl
  case rr =>
    intro h hop (hf : (imm5Field h).toNat ∈ _)
    rw [decode16_of_rr hop, decodeRr]
    generalize (imm5Field h).toNat = n at hf
    fin_cases hf <;> rfl
  case jr =>
    intro h hop hf (hry : 3 ≤ (ryField h).toNat)
    rw [decode16_of_rr hop, decodeRr_of_jr hf, decodeJr16]
    generalize (ryField h).toNat = n at hry
    split
    case h_4 => rfl
    all_goals simp at hry

end Sys2Proof.Machine

/-! The decoder reads back what the encoder writes (30_encoding.md R120 to R150), from bytes of either order (20_memory.md R82
to R84): the statement about it (O1). -/

namespace Sys2Proof.Machine

open Sys2Proof.Laws

/-- The round trip of every constructor, collected. -/
theorem roundTrip : ∀ i, RoundTrip.Statement i
  | .lb .. => RoundTrip.lb _ _ _ | .lbu .. => RoundTrip.lbu _ _ _ | .lh .. => RoundTrip.lh _ _ _
  | .lhu .. => RoundTrip.lhu _ _ _ | .lwl .. => RoundTrip.lwl _ _ _ | .lwr .. => RoundTrip.lwr _ _ _
  | .lw .. => RoundTrip.lw _ _ _ | .sb .. => RoundTrip.sb _ _ _ | .sh .. => RoundTrip.sh _ _ _
  | .swl .. => RoundTrip.swl _ _ _ | .swr .. => RoundTrip.swr _ _ _ | .sw .. => RoundTrip.sw _ _ _ | .sync => RoundTrip.sync
  | .add .. => RoundTrip.add _ _ _ | .addu .. => RoundTrip.addu _ _ _ | .sub .. => RoundTrip.sub _ _ _
  | .subu .. => RoundTrip.subu _ _ _ | .and .. => RoundTrip.and _ _ _ | .or .. => RoundTrip.or _ _ _
  | .xor .. => RoundTrip.xor _ _ _ | .nor .. => RoundTrip.nor _ _ _ | .slt .. => RoundTrip.slt _ _ _
  | .sltu .. => RoundTrip.sltu _ _ _ | .addi .. => RoundTrip.addi _ _ _ | .addiu .. => RoundTrip.addiu _ _ _
  | .slti .. => RoundTrip.slti _ _ _ | .sltiu .. => RoundTrip.sltiu _ _ _ | .andi .. => RoundTrip.andi _ _ _
  | .ori .. => RoundTrip.ori _ _ _ | .xori .. => RoundTrip.xori _ _ _ | .lui .. => RoundTrip.lui _ _
  | .sll .. => RoundTrip.sll _ _ _ | .srl .. => RoundTrip.srl _ _ _ | .sra .. => RoundTrip.sra _ _ _
  | .sllv .. => RoundTrip.sllv _ _ _ | .srlv .. => RoundTrip.srlv _ _ _ | .srav .. => RoundTrip.srav _ _ _
  | .mult .. => RoundTrip.mult _ _ _ | .multu .. => RoundTrip.multu _ _ _ | .div .. => RoundTrip.div _ _
  | .divu .. => RoundTrip.divu _ _ | .madd .. => RoundTrip.madd _ _ _ | .maddu .. => RoundTrip.maddu _ _ _
  | .mfhi .. => RoundTrip.mfhi _ | .mflo .. => RoundTrip.mflo _ | .mthi .. => RoundTrip.mthi _ | .mtlo .. => RoundTrip.mtlo _
  | .j .. => RoundTrip.j _ | .jal .. => RoundTrip.jal _ | .jalx .. => RoundTrip.jalx _ | .jr .. => RoundTrip.jr _
  | .jalr .. => RoundTrip.jalr _ _ | .beq .. => RoundTrip.beq _ _ _ | .bne .. => RoundTrip.bne _ _ _
  | .blez .. => RoundTrip.blez _ _ | .bgtz .. => RoundTrip.bgtz _ _ | .bltz .. => RoundTrip.bltz _ _
  | .bgez .. => RoundTrip.bgez _ _ | .bltzal .. => RoundTrip.bltzal _ _ | .bgezal .. => RoundTrip.bgezal _ _
  | .bltzl .. => RoundTrip.bltzl _ _ | .bgezl .. => RoundTrip.bgezl _ _ | .bltzall .. => RoundTrip.bltzall _ _
  | .bgezall .. => RoundTrip.bgezall _ _ | .beql .. => RoundTrip.beql _ _ _ | .bnel .. => RoundTrip.bnel _ _ _
  | .blezl .. => RoundTrip.blezl _ _ | .bgtzl .. => RoundTrip.bgtzl _ _ | .mfc0 .. => RoundTrip.mfc0 _ _
  | .mtc0 .. => RoundTrip.mtc0 _ _ | .cfc0 .. => RoundTrip.cfc0 _ _ | .ctc0 .. => RoundTrip.ctc0 _ _
  | .mfc1 .. => RoundTrip.mfc1 _ _ | .mtc1 .. => RoundTrip.mtc1 _ _ | .cfc1 .. => RoundTrip.cfc1 _ _
  | .ctc1 .. => RoundTrip.ctc1 _ _ | .cop1 .. => RoundTrip.cop1 _ | .mfc2 .. => RoundTrip.mfc2 _ _
  | .mtc2 .. => RoundTrip.mtc2 _ _ | .cfc2 .. => RoundTrip.cfc2 _ _ | .ctc2 .. => RoundTrip.ctc2 _ _
  | .cop2 .. => RoundTrip.cop2 _ | .mfc3 .. => RoundTrip.mfc3 _ _ | .mtc3 .. => RoundTrip.mtc3 _ _
  | .cfc3 .. => RoundTrip.cfc3 _ _ | .ctc3 .. => RoundTrip.ctc3 _ _ | .cop3 .. => RoundTrip.cop3 _
  | .bc0f .. => RoundTrip.bc0f _ | .bc0t .. => RoundTrip.bc0t _ | .bc0fl .. => RoundTrip.bc0fl _
  | .bc0tl .. => RoundTrip.bc0tl _ | .bc1f .. => RoundTrip.bc1f _ | .bc1t .. => RoundTrip.bc1t _
  | .bc1fl .. => RoundTrip.bc1fl _ | .bc1tl .. => RoundTrip.bc1tl _ | .bc2f .. => RoundTrip.bc2f _
  | .bc2t .. => RoundTrip.bc2t _ | .bc2fl .. => RoundTrip.bc2fl _ | .bc2tl .. => RoundTrip.bc2tl _
  | .bc3f .. => RoundTrip.bc3f _ | .bc3t .. => RoundTrip.bc3t _ | .bc3fl .. => RoundTrip.bc3fl _
  | .bc3tl .. => RoundTrip.bc3tl _ | .rfe => RoundTrip.rfe | .deret => RoundTrip.deret | .tlbr => RoundTrip.tlbr
  | .tlbwi => RoundTrip.tlbwi | .tlbwr => RoundTrip.tlbwr | .tlbp => RoundTrip.tlbp | .cache .. => RoundTrip.cache _ _ _
  | .lwcz .. => RoundTrip.lwcz _ _ _ _ | .swcz .. => RoundTrip.swcz _ _ _ _ | .syscall .. => RoundTrip.syscall _
  | .brk .. => RoundTrip.brk _ | .sdbbp .. => RoundTrip.sdbbp _ | .lb16 .. => RoundTrip.lb16 _ _ _
  | .lbu16 .. => RoundTrip.lbu16 _ _ _ | .lh16 .. => RoundTrip.lh16 _ _ _ | .lhu16 .. => RoundTrip.lhu16 _ _ _
  | .lw16 .. => RoundTrip.lw16 _ _ _ | .lwpc .. => RoundTrip.lwpc _ _ | .lwsp .. => RoundTrip.lwsp _ _
  | .sb16 .. => RoundTrip.sb16 _ _ _ | .sh16 .. => RoundTrip.sh16 _ _ _ | .sw16 .. => RoundTrip.sw16 _ _ _
  | .swsp .. => RoundTrip.swsp _ _ | .swrasp .. => RoundTrip.swrasp _ | .addiu3 .. => RoundTrip.addiu3 _ _ _
  | .addiupc .. => RoundTrip.addiupc _ _ | .addiu8 .. => RoundTrip.addiu8 _ _ | .addiusp .. => RoundTrip.addiusp _ _
  | .adjsp .. => RoundTrip.adjsp _ | .addu16 .. => RoundTrip.addu16 _ _ _ | .subu16 .. => RoundTrip.subu16 _ _ _
  | .neg16 .. => RoundTrip.neg16 _ _ | .slt16 .. => RoundTrip.slt16 _ _ | .sltu16 .. => RoundTrip.sltu16 _ _
  | .slti16 .. => RoundTrip.slti16 _ _ | .sltiu16 .. => RoundTrip.sltiu16 _ _ | .movr32 .. => RoundTrip.movr32 _ _
  | .mov32r .. => RoundTrip.mov32r _ _ | .cmp16 .. => RoundTrip.cmp16 _ _ | .cmpi16 .. => RoundTrip.cmpi16 _ _
  | .and16 .. => RoundTrip.and16 _ _ | .or16 .. => RoundTrip.or16 _ _ | .xor16 .. => RoundTrip.xor16 _ _
  | .not16 .. => RoundTrip.not16 _ _ | .li16 .. => RoundTrip.li16 _ _ | .sll16 .. => RoundTrip.sll16 _ _ _
  | .srl16 .. => RoundTrip.srl16 _ _ _ | .sra16 .. => RoundTrip.sra16 _ _ _ | .sllv16 .. => RoundTrip.sllv16 _ _
  | .srlv16 .. => RoundTrip.srlv16 _ _ | .srav16 .. => RoundTrip.srav16 _ _ | .mult16 .. => RoundTrip.mult16 _ _
  | .multu16 .. => RoundTrip.multu16 _ _ | .div16 .. => RoundTrip.div16 _ _ | .divu16 .. => RoundTrip.divu16 _ _
  | .mfhi16 .. => RoundTrip.mfhi16 _ | .mflo16 .. => RoundTrip.mflo16 _ | .jal16 .. => RoundTrip.jal16 _
  | .jalx16 .. => RoundTrip.jalx16 _ | .jr16 .. => RoundTrip.jr16 _ | .jrra => RoundTrip.jrra
  | .jalr16 .. => RoundTrip.jalr16 _ | .beqz .. => RoundTrip.beqz _ _ | .bnez .. => RoundTrip.bnez _ _
  | .bteqz .. => RoundTrip.bteqz _ | .btnez .. => RoundTrip.btnez _ | .b .. => RoundTrip.b _ | .brk16 .. => RoundTrip.brk16 _
  | .sdbbp16 .. => RoundTrip.sdbbp16 _ | .extend .. => RoundTrip.extend _ _ | .lbE .. => RoundTrip.lbE _ _ _
  | .lbuE .. => RoundTrip.lbuE _ _ _ | .lhE .. => RoundTrip.lhE _ _ _ | .lhuE .. => RoundTrip.lhuE _ _ _
  | .lwE .. => RoundTrip.lwE _ _ _ | .lwpcE .. => RoundTrip.lwpcE _ _ | .lwspE .. => RoundTrip.lwspE _ _
  | .sbE .. => RoundTrip.sbE _ _ _ | .shE .. => RoundTrip.shE _ _ _ | .swE .. => RoundTrip.swE _ _ _
  | .swspE .. => RoundTrip.swspE _ _ | .swraspE .. => RoundTrip.swraspE _ | .addiu3E .. => RoundTrip.addiu3E _ _ _
  | .addiupcE .. => RoundTrip.addiupcE _ _ | .addiu8E .. => RoundTrip.addiu8E _ _ | .addiuspE .. => RoundTrip.addiuspE _ _
  | .adjspE .. => RoundTrip.adjspE _ | .sltiE .. => RoundTrip.sltiE _ _ | .sltiuE .. => RoundTrip.sltiuE _ _
  | .cmpiE .. => RoundTrip.cmpiE _ _ | .liE .. => RoundTrip.liE _ _ | .sllE .. => RoundTrip.sllE _ _ _
  | .srlE .. => RoundTrip.srlE _ _ _ | .sraE .. => RoundTrip.sraE _ _ _ | .beqzE .. => RoundTrip.beqzE _ _
  | .bnezE .. => RoundTrip.bnezE _ _ | .bteqzE .. => RoundTrip.bteqzE _ | .btnezE .. => RoundTrip.btnezE _
  | .bE .. => RoundTrip.bE _

/-- A marked code is read back from its bytes, whatever follows them. -/
theorem codeOfBytes_bytes (big : Bool) {c : Code} (hmarked : Code.Marked c) (rest : List Byte) :
    codeOfBytes big c.isa16 (c.bytes big ++ rest) = some c := by
  cases c with
  | word w =>
    obtain ⟨b0, b1, b2, b3, hb⟩ := exists_wordBytes_eq big w
    simp [Code.bytes, Code.isa16, codeOfBytes, hb, wordOf_of_wordBytes hb]
  | half h =>
    obtain ⟨b0, b1, hb⟩ := List.length_eq_two.mp (length_halfBytes big h)
    have hwhole : isFirstOfTwo h = false := hmarked
    simp [Code.bytes, Code.isa16, codeOfBytes, hb, halfOf_of_halfBytes hb, hwhole]
  | pair h0 h1 =>
    obtain ⟨b0, b1, hb0⟩ := List.length_eq_two.mp (length_halfBytes big h0)
    obtain ⟨b2, b3, hb1⟩ := List.length_eq_two.mp (length_halfBytes big h1)
    have hfirst : isFirstOfTwo h0 = true := hmarked
    simp [Code.bytes, Code.isa16, codeOfBytes, hb0, hb1, halfOf_of_halfBytes hb0, halfOf_of_halfBytes hb1, hfirst]

/-- Settles O1: the bytes give the code back, for it is marked, and the code the instruction. -/
theorem decodeReadsEncodedBytes : Obligations.DecodeReadsEncodedBytes := by
  intro i big rest hwf
  rw [codeOfBytes_bytes big (marked_encode i) rest, Option.map_some, roundTrip i hwf]

end Sys2Proof.Machine

/-! The encoder writes back what the decoder reads (30_encoding.md R120 to R150): the statement about it (O2). The decoder is a tree of
tables, and each has its lemma: in every row that answers with an instruction, the fields the row reads are those of the
instruction's format, and the should-be-zero fields the row tests are the others (R132, D14). -/

namespace Sys2Proof.Machine

open Sys2Proof.Laws

/-! ### The decoder's answer and its code -/

/-- Where the decoder answers with an instruction, it is well-formed and the code is its encoding. -/
def EncodedBy (c : Code) (d : Decoded) : Prop := ∀ i, d = .instr i → i.wf = true ∧ encode i = c

section encodedBy

variable {c : Code} {i : Instr} {z : BitVec 2} {zero : Bool}

@[simp] theorem encodedBy_instr : EncodedBy c (.instr i) ↔ i.wf = true ∧ encode i = c := by simp [EncodedBy]

@[simp] theorem encodedBy_when : EncodedBy c (.when zero i) ↔ (zero = true → i.wf = true ∧ encode i = c) := by
  cases zero <;> simp [Decoded.when, EncodedBy]

@[simp] theorem encodedBy_whenCop : EncodedBy c (.whenCop zero z i) ↔ (zero = true → i.wf = true ∧ encode i = c) := by
  cases zero <;> simp [Decoded.whenCop, EncodedBy]

@[simp] theorem encodedBy_reserved : EncodedBy c .reserved := nofun

@[simp] theorem encodedBy_reservedCop : EncodedBy c (.reservedCop z) := nofun

@[simp] theorem encodedBy_unlistedCop0 : EncodedBy c .unlistedCop0 := nofun

end encodedBy

/-! ### The 32-bit ISA -/

section words

variable {w : Word}

theorem encodedBy_decodeSpecial (hop : opField w = 0#6) : EncodedBy (.word w) (decodeSpecial w) := by
  unfold decodeSpecial
  generalize hfn : (fnField w).toNat = n
  rw [BitVec.toNat_eq_nat] at hfn
  split
  all_goals simp +contextual [Instr.wf, encode, rWord_eq_iff, codeWord_eq_iff, hop, hfn]

theorem encodedBy_decodeBcond (hop : opField w = 1#6) : EncodedBy (.word w) (decodeBcond w) := by
  unfold decodeBcond
  generalize hrt : (rtField w).toNat = n
  rw [BitVec.toNat_eq_nat] at hrt
  split
  all_goals simp [Instr.wf, encode, iWord_eq_iff, hop, hrt]

theorem encodedBy_decodeMadd (hop : opField w = 28#6) : EncodedBy (.word w) (decodeMadd w) := by
  unfold decodeMadd
  generalize hfn : (fnField w).toNat = n
  rw [BitVec.toNat_eq_nat] at hfn
  split
  all_goals simp +contextual [Instr.wf, encode, rWord_eq_iff, hop, hfn]

/-- The moves of every coprocessor (30_encoding.md R126). -/
theorem copMoves_encoding (z : BitVec 2) (rt rd : Reg) :
    ((mfcOf z rt rd).wf = true ∧ encode (mfcOf z rt rd) = .word (copWord z 0#5 rt rd)) ∧
    ((cfcOf z rt rd).wf = true ∧ encode (cfcOf z rt rd) = .word (copWord z 2#5 rt rd)) ∧
    ((mtcOf z rt rd).wf = true ∧ encode (mtcOf z rt rd) = .word (copWord z 4#5 rt rd)) ∧
    (ctcOf z rt rd).wf = true ∧ encode (ctcOf z rt rd) = .word (copWord z 6#5 rt rd) := by
  obtain rfl | rfl | rfl | rfl := copNumber_cases z <;> exact ⟨⟨rfl, rfl⟩, ⟨rfl, rfl⟩, ⟨rfl, rfl⟩, rfl, rfl⟩

/-- The branches on the line of every coprocessor (44_coproc_special32.md R299). -/
theorem bcz_encoding (z : BitVec 2) (off : BitVec 16) :
    ((bcfOf z off).wf = true ∧ encode (bcfOf z off) = .word (zWord 4#4 z 8#5 0#5 off)) ∧
    ((bctOf z off).wf = true ∧ encode (bctOf z off) = .word (zWord 4#4 z 8#5 1#5 off)) ∧
    ((bcflOf z off).wf = true ∧ encode (bcflOf z off) = .word (zWord 4#4 z 8#5 2#5 off)) ∧
    (bctlOf z off).wf = true ∧ encode (bctlOf z off) = .word (zWord 4#4 z 8#5 3#5 off) := by
  obtain rfl | rfl | rfl | rfl := copNumber_cases z <;> exact ⟨⟨rfl, rfl⟩, ⟨rfl, rfl⟩, ⟨rfl, rfl⟩, rfl, rfl⟩

section cop

variable (hop : opField w = (4#4 ++ zField w : BitVec 6))

include hop

theorem encodedBy_decodeBcz (hrs : rsField w = 8#5) : EncodedBy (.word w) (decodeBcz w) := by
  unfold decodeBcz
  generalize hrt : (rtField w).toNat = n
  rw [BitVec.toNat_eq_nat] at hrt
  split
  all_goals simp [bcz_encoding, zWord_eq_iff, hop, hrs, hrt]

theorem encodedBy_decodeCop0Op (hz : zField w = 0#2) (hbit : w.extractLsb' 25 1 = 1#1) :
    EncodedBy (.word w) (decodeCop0Op w) := by
  unfold decodeCop0Op
  generalize hcofun : (cofunField w).toNat = n
  rw [BitVec.toNat_eq_nat] at hcofun
  split
  all_goals simp [Instr.wf, encode, cofunWord_eq_iff, hop, hz, hbit, hcofun]

theorem encodedBy_decodeCopOp (hbit : w.extractLsb' 25 1 = 1#1) : EncodedBy (.word w) (decodeCopOp w) := by
  unfold decodeCopOp
  split
  case h_1 hz => exact encodedBy_decodeCop0Op hop hz hbit
  all_goals next hz => simp [Instr.wf, encode, cofunWord_eq_iff, hop, hz, hbit]

theorem encodedBy_decodeCop : EncodedBy (.word w) (decodeCop w) := by
  unfold decodeCop
  generalize hrs : (rsField w).toNat = n
  have hrs' := BitVec.toNat_eq_nat.mp hrs
  split
  case h_5 => exact encodedBy_decodeBcz hop hrs'.2
  case h_6 =>
    split
    case isTrue h16 => exact encodedBy_decodeCopOp hop (bit25_of_rsField (hrs ▸ h16))
    case isFalse => exact encodedBy_reservedCop
  all_goals simp [copMoves_encoding, copWord_eq_iff, hop, hrs']

end cop

theorem encodedBy_decode32 : EncodedBy (.word w) (decode32 w) := by
  unfold decode32
  generalize hop : (opField w).toNat = n
  rw [BitVec.toNat_eq_nat] at hop
  split
  all_goals simp +contextual [Instr.wf, encode, iWord_eq_iff, jWord_eq_iff, zWord_eq_iff, encodedBy_decodeSpecial,
    encodedBy_decodeBcond, encodedBy_decodeMadd, encodedBy_decodeCop, hop, zField_eq w]

end words

/-! ### The 16-bit ISA -/

section half

variable {h : Half}

theorem encodedBy_decodeJr16 (hop : op16Field h = 29#5) (hf : imm5Field h = 0#5) : EncodedBy (.half h) (decodeJr16 h) := by
  unfold decodeJr16
  generalize hry : (ryField h).toNat = n
  rw [BitVec.toNat_eq_nat] at hry
  split
  all_goals simp +contextual [Instr.wf, encode, rriHalf_eq_iff, hop, hf, hry]

theorem encodedBy_decodeRr (hop : op16Field h = 29#5) : EncodedBy (.half h) (decodeRr h) := by
  unfold decodeRr
  generalize hf : (imm5Field h).toNat = n
  rw [BitVec.toNat_eq_nat] at hf
  split
  all_goals simp +contextual [Instr.wf, encode, rriHalf_eq_iff, code6Half_eq_iff, encodedBy_decodeJr16, hop, hf]

theorem encodedBy_decodeI8 (hop : op16Field h = 12#5) : EncodedBy (.half h) (decodeI8 h) := by
  unfold decodeI8
  generalize hrx : (rxField h).toNat = n
  rw [BitVec.toNat_eq_nat] at hrx
  split
  all_goals simp [Instr.wf, encode, riHalf_eq_iff, rriHalf_eq_iff, mov32rHalf_eq_iff, hop, hrx]

theorem encodedBy_decode16 : EncodedBy (.half h) (decode16 h) := by
  unfold decode16
  generalize hop : (op16Field h).toNat = n
  generalize hf : (h.extractLsb' 0 2).toNat = f
  rw [BitVec.toNat_eq_nat] at hop hf
  split
  case h_6 | h_25 => -- SHIFT and RRR
    split
    all_goals simp [Instr.wf, encode, rrrHalf_eq_iff, hop, hf]
  case h_7 => -- ADDIU3
    split
    case isTrue hbit => simp [Instr.wf, encode, rriaHalf_eq_iff, hop, beq_iff_eq.mp hbit]
    case isFalse => exact encodedBy_reserved
  all_goals simp [Instr.wf, encode, riHalf_eq_iff, rriHalf_eq_iff, iHalf_eq_iff, encodedBy_decodeI8, encodedBy_decodeRr, hop]

end half

section pair

variable {ext low : Half}

/-- The immediate put together from the pieces of a pair is laid out as those pieces (30_encoding.md R140). -/
theorem extPair_extImm_eq_iff {op : BitVec 5} {rx ry : Reg3} : extPair op rx ry (extImm ext low) = .pair ext low ↔
    op16Field ext = 30#5 ∧ op16Field low = op ∧ rxField low = rx ∧ ryField low = ry := by
  have hlow : (extImm ext low).extractLsb' 0 5 = imm5Field low := BitVec.extractLsb'_append_eq_right
  have hmid : (extImm ext low).extractLsb' 5 6 = ext.extractLsb' 5 6 := extractLsb'_join_mid
  have hhigh : (extImm ext low).extractLsb' 11 5 = ext.extractLsb' 0 5 := extractLsb'_join_high
  simp [extPair, extHalf_eq_iff, rriHalf_eq_iff, hlow, hmid, hhigh]

theorem extShift_eq_iff {rx ry : Reg3} {sa : BitVec 5} {f : BitVec 2} : extShift rx ry sa f = .pair ext low ↔
    (op16Field ext = 30#5 ∧ ext.extractLsb' 6 5 = sa ∧ ext.extractLsb' 0 6 = 0#6) ∧
      op16Field low = 6#5 ∧ rxField low = rx ∧ ryField low = ry ∧ rzField low = 0#3 ∧ low.extractLsb' 0 2 = f := by
  simp [extShift, extShiftHalf_eq_iff, rrrHalf_eq_iff]

/-- EXTEND misused (30_encoding.md R150). -/
theorem encodedBy_decodeExtended_of_not_extensible (hext : op16Field ext = 30#5) (hlow : isExtensible low = false) :
    EncodedBy (.pair ext low) (decodeExtended ext low) := by
  have hjoin : iHalf 30#5 (ext.extractLsb' 0 11) = ext := iHalf_eq_iff.mpr ⟨hext, rfl⟩
  have hdec := decodeExtended_misused (ext.extractLsb' 0 11) low hlow
  rw [hjoin] at hdec
  rw [hdec, encodedBy_instr]
  simp [Instr.wf, encode, hlow, hjoin]

theorem encodedBy_addiu3E (hext : op16Field ext = 30#5) (hop : op16Field low = 8#5) (hbit : low.extractLsb' 4 1 = 0#1) :
    EncodedBy (.pair ext low) (.instr (.addiu3E (rxField low) (ryField low)
      (ext.extractLsb' 0 4 ++ ext.extractLsb' 4 7 ++ low.extractLsb' 0 4))) := by
  generalize himm : (ext.extractLsb' 0 4 ++ ext.extractLsb' 4 7 ++ low.extractLsb' 0 4 : BitVec 15) = imm
  have hlow : imm.extractLsb' 0 4 = low.extractLsb' 0 4 := himm ▸ BitVec.extractLsb'_append_eq_right
  have hmid : imm.extractLsb' 4 7 = ext.extractLsb' 4 7 := himm ▸ extractLsb'_join_mid
  have hhigh : imm.extractLsb' 11 4 = ext.extractLsb' 0 4 := himm ▸ extractLsb'_join_high
  simp [Instr.wf, encode, extAHalf_eq_iff, rriaHalf_eq_iff, hext, hop, hbit, hlow, hmid, hhigh]

/-- The functions of I8 with an extended form. -/
theorem eq_of_lt_four {r : Reg3} (h : r.toNat < 4) : r = 0#3 ∨ r = 1#3 ∨ r = 2#3 ∨ r = 3#3 := by
  revert r
  decide

/-- Before an extensible halfword no row of the table answers with EXTEND misused: what `isExtensible` asks of the function fields
shuts those rows out. -/
theorem encodedBy_decodeExtended_of_extensible (hext : op16Field ext = 30#5) (hlow : isExtensible low = true) :
    EncodedBy (.pair ext low) (decodeExtended ext low) := by
  have hopField : low.extractLsb' 11 5 = op16Field low := rfl
  have hrxField : low.extractLsb' 8 3 = rxField low := rfl
  rw [isExtensible, hopField, hrxField] at hlow
  generalize hop : (op16Field low).toNat = n at hlow
  replace hop := (BitVec.toNat_eq_nat.mp hop).2
  split at hlow
  case h_6 => -- SHIFT
    obtain hf | hf | hf | hf := copNumber_cases (low.extractLsb' 0 2)
    case inr.inl => simp [hf] at hlow
    all_goals simp +contextual [decodeExtended, Instr.wf, encode, extShift_eq_iff, hext, hop, hf]
  case h_7 => -- ADDIU3
    have hbit : low.extractLsb' 4 1 = 0#1 := beq_iff_eq.mp hlow
    simpa [decodeExtended, hop, hbit] using encodedBy_addiu3E hext hop hbit
  case h_11 => -- I8
    obtain hrx | hrx | hrx | hrx := eq_of_lt_four (of_decide_eq_true hlow)
    all_goals simp +contextual [decodeExtended, Instr.wf, encode, extPair_extImm_eq_iff, hext, hop, hrx]
  case h_25 => cases hlow
  all_goals simp +contextual [decodeExtended, Instr.wf, encode, extPair_extImm_eq_iff, code6Field_eq_zero_iff, hext, hop]

theorem encodedBy_decodeExtended (hext : op16Field ext = 30#5) : EncodedBy (.pair ext low) (decodeExtended ext low) := by
  cases hlow : isExtensible low with
  | true => exact encodedBy_decodeExtended_of_extensible hext hlow
  | false => exact encodedBy_decodeExtended_of_not_extensible hext hlow

/-- The target put together from the three pieces of a pair gives the pair back (30_encoding.md R139). -/
theorem jal16Half_of_target {x : BitVec 1} {h0 h1 : Half} {target : BitVec 26} (hop : op16Field h0 = 3#5)
    (hx : h0.extractLsb' 10 1 = x) (ht : (h0.extractLsb' 0 5 ++ h0.extractLsb' 5 5 ++ h1 : BitVec 26) = target) :
    jal16Half x target = h0 ∧ target.extractLsb' 0 16 = h1 := by
  have hlow : target.extractLsb' 0 16 = h1 := ht ▸ BitVec.extractLsb'_append_eq_right
  have hmid : target.extractLsb' 16 5 = h0.extractLsb' 5 5 := ht ▸ extractLsb'_join_mid
  have hhigh : target.extractLsb' 21 5 = h0.extractLsb' 0 5 := ht ▸ extractLsb'_join_high
  simp [jal16Half_eq_iff, hop, hx, hlow, hmid, hhigh]

theorem encodedBy_decodePair : EncodedBy (.pair ext low) (decodePair ext low) := by
  unfold decodePair
  split
  case isTrue hop =>
    dsimp only
    split
    case isTrue hx =>
      simp [Instr.wf, encode, jal16Half_of_target (beq_iff_eq.mp hop) (beq_iff_eq.mp hx) rfl]
    case isFalse hx =>
      have hx : ext.extractLsb' 10 1 = 1#1 := (BitVec.eq_zero_or_eq_one _).resolve_left (by simpa using hx)
      simp [Instr.wf, encode, jal16Half_of_target (beq_iff_eq.mp hop) hx rfl]
  case isFalse =>
    split
    case isTrue hop => exact encodedBy_decodeExtended (beq_iff_eq.mp hop)
    case isFalse => exact encodedBy_reserved

end pair

/-! ### The statement -/

/-- Settles O2: each of the three decoders answers with nothing but what its code encodes. -/
theorem decodedCodeIsEncoding : Obligations.DecodedCodeIsEncoding := by
  intro c
  cases c with
  | word w => exact fun i => encodedBy_decode32 i
  | half h => exact encodedBy_decode16
  | pair h0 h1 => exact encodedBy_decodePair

end Sys2Proof.Machine

/-! The instructions that only complete (40_loadstore32.md R184, 44_coproc_special32.md R312): the machine's ends of an instruction in
the words of the statements, and the statement about SYNC and the TLB operations (O43). -/

namespace Sys2Proof.Machine

open Sys2Proof.Spec

/-! ### The end of an instruction -/

section ends

variable (s : State) (len : Word)

theorem setReg_eq_put (r : Reg) (v : Word) : s.setReg r v = put s r v := by
  have hgpr : writeGpr s.gpr r v = Vector.ofFn fun i => if i.val = r.toNat ∧ i.val ≠ 0 then v else s.gpr[i] := by
    refine Vector.ext fun n hn => ?_
    have hzero : r = 0#5 ↔ r.toNat = 0 := BitVec.toNat_inj.symm
    have hcond : (r ≠ 0#5 ∧ r.toNat = n) ↔ (n = r.toNat ∧ n ≠ 0) := by
      rw [Ne, hzero]
      omega
    rw [writeGpr_get, Vector.getElem_ofFn, if_congr hcond rfl rfl]
    rfl
  rw [State.setReg, hgpr]
  rfl

theorem finish_eq_done : s.finish len = done len s := by
  unfold State.finish done State.nextPc State.leavesDebug
  cases hslot : s.slot with
  | none => simp [← hslot]
  | some k => rfl

theorem finishAs_access_eq_doneAccess : s.finishAs .access len = doneAccess len s := by
  rw [State.finishAs, finish_eq_done, doneAccess]

end ends

/-! ### The usability check -/

/-- The check of a coprocessor (44_coproc_special32.md R290) in the words of the statements. -/
theorem usable_iff (s : State) (z : BitVec 2) : s.usable z = true ↔ Usable s z := by
  simp [State.usable, bit_eq_getLsbD]

theorem ifUsable_of_usable {s : State} {z : BitVec 2} (h : Usable s z) (body : Result) : ifUsable z s body = body :=
  if_pos ((usable_iff s z).mpr h)

/-! ### The statement -/

/-- Settles O43: SYNC only completes, and so do the TLB operations behind the usability check. -/
theorem noOperations : Obligations.NoOperations := by
  intro s
  rw [← finish_eq_done]
  refine ⟨rfl, fun husable => ?_⟩
  have hbody := ifUsable_of_usable husable (.next (s.finish 4))
  exact ⟨hbody, hbody, hbody, hbody⟩

end Sys2Proof.Machine

/-! Loads (40_loadstore32.md R170 to R179, 45_loadstore16.md R335 to R342): the value of bytes in the byte order of the product,
aligned bytes at consecutive physical addresses, and the statement about every load but LWL and LWR (O14). -/

namespace Sys2Proof.Machine

open Sys2Proof.Spec

/-! ### Aligned addresses -/

section aligned

variable {va : Word}

/-- The translation as arithmetic, all ranges at once (20_memory.md R91). -/
theorem toNat_translate (va : Word) : (translate va).toNat =
    if va.toNat < 0x80000000 then va.toNat + 0x40000000 else if va.toNat < 0xC0000000 then va.toNat % 2 ^ 29 else va.toNat := by
  obtain ⟨hkuseg, hunmapped, hkseg2⟩ := translation va
  split
  · next h => exact hkuseg h
  · next h =>
    split
    · next h' => exact hunmapped ⟨by omega, h'⟩
    · next h' => rw [hkseg2 (by omega)]

theorem toNat_add_ofNat {i : Nat} (h : va.toNat % 4 + i < 4) : (va + BitVec.ofNat 32 i).toNat = va.toNat + i := by
  have hva := va.isLt
  rw [BitVec.toNat_add, BitVec.toNat_ofNat]
  omega

/-- The bytes of an aligned word stay in order: every range of the translation is made of whole words. -/
theorem toNat_translate_add {i : Nat} (h : va.toNat % 4 + i < 4) :
    (translate (va + BitVec.ofNat 32 i)).toNat = (translate va).toNat + i := by
  have hva := va.isLt
  rw [toNat_translate, toNat_translate, toNat_add_ofNat h]
  split_ifs <;> omega

/-- An address aligned to the width of an access has the whole access inside one aligned word. -/
theorem mod_add_le_of_aligned {n : Nat} (hn : n = 1 ∨ n = 2 ∨ n = 4) (halign : va.toNat % n = 0) : va.toNat % 4 + n ≤ 4 := by
  obtain rfl | rfl | rfl := hn <;> omega

end aligned

/-! ### The value of bytes -/

theorem toNat_append_byte {n : Nat} (x : BitVec n) (b : Byte) : (x ++ b).toNat = 256 * x.toNat + b.toNat := by
  rw [BitVec.toNat_append, ← Nat.shiftLeft_add_eq_or_of_lt b.isLt, Nat.shiftLeft_eq, Nat.mul_comm]

/-- The value that bytes hold in the byte order, as wide as the bytes. -/
def bytesValue (big : Bool) (n : Nat) (bytes : List Byte) : BitVec (8 * n) := BitVec.ofNat (8 * n) (number big bytes)

theorem number_single (big : Bool) (b : Byte) : number big [b] = b.toNat := by cases big <;> simp [number]

theorem number_pair (big : Bool) (b0 b1 : Byte) : number big [b0, b1] = (halfOf big b0 b1).toNat := by
  cases big <;> simp [number, halfOf, toNat_append_byte]

theorem number_quad (big : Bool) (b0 b1 b2 b3 : Byte) : number big [b0, b1, b2, b3] = (wordOf big b0 b1 b2 b3).toNat := by
  cases big <;> simp [number, wordOf, toNat_append_byte]

section values

variable (s : State) (ea : Word)

theorem byteAt_eq_bytesValue : s.byteAt ea = bytesValue s.product.bigEndian 1 ((bytesFrom ea 1).map s.byteAt) := by
  have hnumber := number_single s.product.bigEndian (s.byteAt ea)
  exact (BitVec.ofNat_toNat 8 _).symm.trans (congrArg _ hnumber.symm)

theorem halfAt_eq_bytesValue : s.halfAt ea = bytesValue s.product.bigEndian 2 ((bytesFrom ea 2).map s.byteAt) := by
  have hnumber := number_pair s.product.bigEndian (s.byteAt ea) (s.byteAt (ea + 1))
  exact (BitVec.ofNat_toNat 16 _).symm.trans (congrArg _ hnumber.symm)

theorem bytesFrom_four : bytesFrom ea 4 = [ea, ea + 1, ea + 2, ea + 3] := by
  simp [bytesFrom, BitVec.add_assoc]

theorem wordAt_eq_bytesValue : s.wordAt ea = bytesValue s.product.bigEndian 4 ((bytesFrom ea 4).map s.byteAt) := by
  have hnumber := number_quad s.product.bigEndian (s.byteAt ea) (s.byteAt (ea + 1)) (s.byteAt (ea + 2)) (s.byteAt (ea + 3))
  rw [bytesFrom_four]
  exact (BitVec.ofNat_toNat 32 _).symm.trans (congrArg _ hnumber.symm)

end values

/-! ### What a load extends -/

theorem sext_eq_widened {n : Nat} (v : BitVec (8 * n)) : sext v = widened n true v := rfl

theorem zext_eq_widened {n : Nat} (v : BitVec (8 * n)) : zext v = widened n false v := (BitVec.ofNat_toNat 32 v).symm

/-- A word is as wide as a register: there is nothing to extend. -/
theorem widened_word (signed : Bool) (v : Word) : widened 4 signed v = v := by
  cases signed with
  | true => exact BitVec.ofInt_toInt
  | false => exact BitVec.ofNat_toNat 32 v

section loads

variable {s : State} {i : Instr} {f : LoadForm}

/-- A load form is one, two or four bytes wide. -/
theorem width_of_loadForm (h : loadForm s i = some f) : f.width = 1 ∨ f.width = 2 ∨ f.width = 4 := by
  rw [loadForm, Option.or_eq_some_iff, Option.or_eq_some_iff] at h
  obtain h | ⟨-, h | ⟨-, h⟩⟩ := h
  · unfold load32 at h
    split at h <;> cases h <;> simp
  · unfold load16 at h
    split at h <;> cases h <;> simp
  · unfold loadExtended at h
    split at h <;> cases h <;> simp

/-- What the shared load puts into the register is the value of the bytes at its address, extended. -/
theorem loadValue_eq_widened (s : State) (hwidth : f.width = 1 ∨ f.width = 2 ∨ f.width = 4) :
    loadValue s f =
      widened f.width f.signed (bytesValue s.product.bigEndian f.width ((bytesFrom f.ea f.width).map s.byteAt)) := by
  obtain ⟨dest, ea, width, signed, len⟩ := f
  obtain rfl | rfl | rfl := hwidth
  · rw [← byteAt_eq_bytesValue]
    cases signed with
    | true => exact sext_eq_widened (n := 1) (s.byteAt ea)
    | false => exact zext_eq_widened (n := 1) (s.byteAt ea)
  · rw [← halfAt_eq_bytesValue]
    cases signed with
    | true => exact sext_eq_widened (n := 2) (s.halfAt ea)
    | false => exact zext_eq_widened (n := 2) (s.halfAt ea)
  · rw [← wordAt_eq_bytesValue, widened_word]
    rfl

end loads

/-! ### Bytes in memory -/

theorem add_one_add_ofNat (va : Word) (i : Nat) : va + 1#32 + BitVec.ofNat 32 i = va + BitVec.ofNat 32 (i + 1) := by
  rw [BitVec.add_assoc, BitVec.ofNat_add, BitVec.add_comm (BitVec.ofNat 32 i)]

theorem bytesFrom_eq_map_range (va : Word) (n : Nat) : bytesFrom va n = (List.range n).map fun i => va + BitVec.ofNat 32 i := by
  induction n generalizing va with
  | zero => rfl
  | succ n ih =>
    simp only [bytesFrom, ih, List.range_succ_eq_map, List.map_cons, List.map_map, Function.comp_def, add_one_add_ofNat,
      Nat.succ_eq_add_one, BitVec.ofNat_eq_ofNat, BitVec.add_zero]

/-- Where no device answers, the bytes inside one aligned word are those of memory from its physical address up. -/
theorem map_byteAt_bytesFrom {s : State} {ea : Word} {n : Nat} (hin : ea.toNat % 4 + n ≤ 4)
    (hmem : ∀ va ∈ bytesFrom ea n, s.onDevice va = false) : (bytesFrom ea n).map s.byteAt = physicalBytes s ea n := by
  rw [bytesFrom_eq_map_range] at hmem ⊢
  rw [List.map_map, physicalBytes]
  refine List.map_congr_left fun i hi => ?_
  have hlt : i < n := List.mem_range.mp hi
  rw [Function.comp_apply, State.byteAt_memory (hmem _ (List.mem_map_of_mem hi)), toNat_translate_add (by omega)]

/-! ### The statement -/

/-- A load that meets nothing in its way completes with its value in the destination. -/
theorem load_of_reachable {s : State} {ea : Word} {align : Nat} {vas : List Word} (h : Reachable s .load ea align vas)
    (len : Word) (dest : Reg) (value : Word) : load len dest ea align vas value s = .next (doneAccess len (put s dest value)) := by
  obtain ⟨⟨hmode, hperm, hres⟩, hbus⟩ := h
  rw [load_granted hmode (access_granted hperm hres hbus), setReg_eq_put, finishAs_access_eq_doneAccess]

/-- Settles O14: every form runs the shared load, which puts the extended value of its bytes into the register; those bytes are
memory's where no device answers. -/
theorem loads : Obligations.Loads := by
  intro i s f hform hslot hreach
  have hwidth := width_of_loadForm hform
  have hexec : exec i s = .next (doneAccess f.len (put s f.dest (widened f.width f.signed
      (bytesValue s.product.bigEndian f.width ((bytesFrom f.ea f.width).map s.byteAt))))) := by
    rw [exec_of_loadForm hslot hform, runLoad, load_of_reachable hreach, loadValue_eq_widened s hwidth]
  refine ⟨⟨_, hexec⟩, fun hmem => ?_⟩
  obtain ⟨⟨-, ⟨halign, -⟩, -⟩, -⟩ := hreach
  rw [hexec, map_byteAt_bytesFrom (mod_add_le_of_aligned hwidth halign) hmem]
  rfl

end Sys2Proof.Machine

/-! LWL and LWR (40_loadstore32.md R177, R178) byte by byte: the bytes of a word, the two merges, and the statement about them
(O15). -/

namespace Sys2Proof.Machine

open Sys2Proof.Spec

/-! ### Bytes of a word -/

/-- Byte n of a word, 0 the least significant. -/
def byteOf (w : Word) (n : Nat) : Byte := w.extractLsb' (8 * n) 8

theorem getLsbD_byteOf (w : Word) (n i : Nat) : (byteOf w n).getLsbD i = (decide (i < 8) && w.getLsbD (8 * n + i)) := by
  rw [byteOf, BitVec.getLsbD_extractLsb']

/-- Where a word's bytes stand in memory order. -/
theorem getElem?_wordBytes (big : Bool) (w : Word) {n : Nat} (hn : n < 4) :
    (wordBytes big w)[if big then 3 - n else n]? = some (byteOf w n) := by
  cases big <;> interval_cases n <;> rfl

/-- The bytes of the word that bytes hold are those bytes (20_memory.md R83). -/
theorem wordBytes_wordOf (big : Bool) (b0 b1 b2 b3 : Byte) : wordBytes big (wordOf big b0 b1 b2 b3) = [b0, b1, b2, b3] := by
  have hjoin (x3 x2 x1 x0 : Byte) : let w : Word := x3 ++ x2 ++ x1 ++ x0
      w.extractLsb' 24 8 = x3 ∧ w.extractLsb' 16 8 = x2 ∧ w.extractLsb' 8 8 = x1 ∧ w.extractLsb' 0 8 = x0 := by
    simp (disch := omega) only [BitVec.extractLsb'_append_eq_of_le, BitVec.extractLsb'_append_eq_of_add_le,
      Nat.reduceSub, BitVec.extractLsb'_eq_self, and_self]
  cases big with
  | true =>
    obtain ⟨h3, h2, h1, h0⟩ := hjoin b0 b1 b2 b3
    simp [wordBytes, wordOf, h3, h2, h1, h0]
  | false =>
    obtain ⟨h3, h2, h1, h0⟩ := hjoin b3 b2 b1 b0
    simp [wordBytes, wordOf, h3, h2, h1, h0]

theorem wordBytes_wordAt (s : State) (va : Word) :
    wordBytes s.product.bigEndian (s.wordAt va) = (bytesFrom va 4).map s.byteAt := by
  rw [State.wordAt, wordBytes_wordOf, bytesFrom_four]
  rfl

theorem byteOf_wordAt (s : State) (va : Word) {n : Nat} (hn : n < 4) :
    byteOf (s.wordAt va) n = s.byteAt (va + BitVec.ofNat 32 (if s.product.bigEndian then 3 - n else n)) := by
  have hplace : (if s.product.bigEndian then 3 - n else n) < 4 := by split <;> omega
  have hbyte := getElem?_wordBytes s.product.bigEndian (s.wordAt va) hn
  rw [wordBytes_wordAt, bytesFrom_eq_map_range, List.getElem?_map, List.getElem?_map, List.getElem?_range hplace] at hbyte
  exact (Option.some.inj hbyte).symm

/-! ### The merges -/

theorem getLsbD_low_mask {m : Nat} (hm : m < 32) (i : Nat) : ((1#32 <<< m) - 1).getLsbD i = decide (i < m) := by
  have hpow : 2 ^ m < 2 ^ 32 := Nat.pow_lt_pow_right (by decide) hm
  have hmask : ((1#32 <<< m) - 1).toNat = 2 ^ m - 1 := by
    have hpos : 0 < 2 ^ m := Nat.two_pow_pos m
    have hone : (1#32 <<< m).toNat = 2 ^ m := by
      rw [BitVec.toNat_shiftLeft, Nat.shiftLeft_eq, BitVec.toNat_one (by decide), Nat.one_mul, Nat.mod_eq_of_lt hpow]
    rw [BitVec.toNat_sub_of_le (by rw [BitVec.le_def, hone]; exact hpos), hone]
    rfl
  rw [BitVec.getLsbD, hmask, Nat.testBit_two_pow_sub_one]

/-- Moved k bytes to the left, with the low k bytes of another word kept. -/
theorem byteOf_shiftLeft_or {k n : Nat} (hk : k < 4) (hn : n < 4) (w old : Word) :
    byteOf (w <<< (8 * k) ||| (old &&& (1#32 <<< (8 * k)) - 1)) n = if k ≤ n then byteOf w (n - k) else byteOf old n := by
  apply BitVec.eq_of_getLsbD_eq
  intro i hi
  have hin : 8 * n + i < 32 := by omega
  simp only [getLsbD_byteOf, BitVec.getLsbD_or, BitVec.getLsbD_and, BitVec.getLsbD_shiftLeft, hi, hin,
    getLsbD_low_mask (show 8 * k < 32 by omega), decide_true, Bool.true_and]
  split
  · next hkn =>
    have hnot : ¬ 8 * n + i < 8 * k := by omega
    have hidx : 8 * n + i - 8 * k = 8 * (n - k) + i := by omega
    simp only [getLsbD_byteOf, hi, hnot, hidx, decide_true, decide_false, Bool.not_false, Bool.true_and, Bool.and_false,
      Bool.or_false]
  · next hkn =>
    have hlt : 8 * n + i < 8 * k := by omega
    simp only [getLsbD_byteOf, hi, hlt, decide_true, Bool.not_true, Bool.true_and, Bool.false_and, Bool.and_true,
      Bool.false_or]

/-- Moved k bytes to the right, with the high k bytes of another word kept. -/
theorem byteOf_or_shiftRight {k n : Nat} (hn : n < 4) (w old : Word) :
    byteOf ((old &&& ~~~((BitVec.allOnes 32) >>> (8 * k))) ||| (w >>> (8 * k))) n =
      if n + k < 4 then byteOf w (n + k) else byteOf old n := by
  apply BitVec.eq_of_getLsbD_eq
  intro i hi
  have hin : 8 * n + i < 32 := by omega
  simp only [getLsbD_byteOf, BitVec.getLsbD_or, BitVec.getLsbD_and, BitVec.getLsbD_not, BitVec.getLsbD_ushiftRight,
    BitVec.getLsbD_allOnes, hi, hin, decide_true, Bool.true_and]
  split
  · next hkn =>
    have hlt : 8 * k + (8 * n + i) < 32 := by omega
    have hidx : 8 * k + (8 * n + i) = 8 * (n + k) + i := by omega
    simp only [getLsbD_byteOf, hi, ← hidx, hlt, decide_true, Bool.not_true, Bool.true_and, Bool.and_false, Bool.false_or]
  · next hkn =>
    have hnot : ¬ 8 * k + (8 * n + i) < 32 := by omega
    simp only [getLsbD_byteOf, hi, hnot, BitVec.getLsbD_of_ge w _ (Nat.le_of_not_lt hnot), decide_true, decide_false,
      Bool.not_false, Bool.true_and, Bool.and_true, Bool.or_false]

/-! ### The aligned word -/

section alignedWord

variable {ea : Word}

theorem toNat_alignedWord (ea : Word) : (alignedWord ea).toNat = ea.toNat / 4 * 4 := by
  have hea := ea.isLt
  rw [alignedWord, and_mask4_eq, BitVec.toNat_ofNat]
  omega

theorem alignedWord_add {j : Nat} (h : ea.toNat % 4 ≤ j) :
    alignedWord ea + BitVec.ofNat 32 j = ea + BitVec.ofNat 32 (j - ea.toNat % 4) := by
  have hea := ea.isLt
  apply BitVec.eq_of_toNat_eq
  simp only [BitVec.toNat_add, toNat_alignedWord, BitVec.toNat_ofNat]
  omega

theorem alignedWord_add_sub {j : Nat} (h : j ≤ ea.toNat % 4) :
    alignedWord ea + BitVec.ofNat 32 j = ea - BitVec.ofNat 32 (ea.toNat % 4 - j) := by
  have hea := ea.isLt
  apply BitVec.eq_of_toNat_eq
  simp only [BitVec.toNat_add, BitVec.toNat_sub, toNat_alignedWord, BitVec.toNat_ofNat]
  omega

end alignedWord

/-! ### The statement -/

section merges

variable {s : State} {ea : Word} {n : Nat}

/-- LWL keeps as many low bytes of the register as it moves the word's bytes up. -/
theorem byteOf_lwlMerge (big : Bool) (w old : Word) (hn : n < 4) :
    byteOf (lwlMerge big (ea.toNat % 4) w old) n =
      if big then (if ea.toNat % 4 ≤ n then byteOf w (n - ea.toNat % 4) else byteOf old n)
      else (if 3 - ea.toNat % 4 ≤ n then byteOf w (n - (3 - ea.toNat % 4)) else byteOf old n) := by
  cases big with
  | true => exact byteOf_shiftLeft_or (by omega) hn w old
  | false => exact byteOf_shiftLeft_or (by omega) hn w old

/-- LWR keeps as many high bytes of the register as it moves the word's bytes down. -/
theorem byteOf_lwrMerge (big : Bool) (w old : Word) (hn : n < 4) :
    byteOf (lwrMerge big (ea.toNat % 4) w old) n =
      if big then (if n + (3 - ea.toNat % 4) < 4 then byteOf w (n + (3 - ea.toNat % 4)) else byteOf old n)
      else (if n + ea.toNat % 4 < 4 then byteOf w (n + ea.toNat % 4) else byteOf old n) := by
  cases big <;> exact byteOf_or_shiftRight hn w old

theorem byteOf_lwl (s : State) (ea old : Word) (hn : n < 4) :
    byteOf (lwlMerge s.product.bigEndian (ea.toNat % 4) (s.wordAt (alignedWord ea)) old) n =
      if s.product.bigEndian then
        (if ea.toNat % 4 ≤ n then s.byteAt (ea + BitVec.ofNat 32 (3 - n)) else byteOf old n)
      else (if 3 - ea.toNat % 4 ≤ n then s.byteAt (ea - BitVec.ofNat 32 (3 - n)) else byteOf old n) := by
  rw [byteOf_lwlMerge s.product.bigEndian _ _ hn]
  cases hbig : s.product.bigEndian with
  | true =>
    rw [if_pos rfl, if_pos rfl]
    refine if_ctx_congr Iff.rfl (fun hle => ?_) fun _ => rfl
    have hidx : 3 - (n - ea.toNat % 4) - ea.toNat % 4 = 3 - n := by omega
    rw [byteOf_wordAt s _ (by omega), hbig, if_pos rfl, alignedWord_add (by omega), hidx]
  | false =>
    rw [if_neg Bool.false_ne_true, if_neg Bool.false_ne_true]
    refine if_ctx_congr Iff.rfl (fun hle => ?_) fun _ => rfl
    have hidx : ea.toNat % 4 - (n - (3 - ea.toNat % 4)) = 3 - n := by omega
    rw [byteOf_wordAt s _ (by omega), hbig, if_neg Bool.false_ne_true, alignedWord_add_sub (by omega), hidx]

theorem byteOf_lwr (s : State) (ea old : Word) (hn : n < 4) :
    byteOf (lwrMerge s.product.bigEndian (ea.toNat % 4) (s.wordAt (alignedWord ea)) old) n =
      if s.product.bigEndian then
        (if n ≤ ea.toNat % 4 then s.byteAt (ea - BitVec.ofNat 32 n) else byteOf old n)
      else (if n ≤ 3 - ea.toNat % 4 then s.byteAt (ea + BitVec.ofNat 32 n) else byteOf old n) := by
  rw [byteOf_lwrMerge s.product.bigEndian _ _ hn]
  cases hbig : s.product.bigEndian with
  | true =>
    rw [if_pos rfl, if_pos rfl]
    refine if_ctx_congr (by omega) (fun hle => ?_) fun _ => rfl
    have hidx : ea.toNat % 4 - (3 - (n + (3 - ea.toNat % 4))) = n := by omega
    rw [byteOf_wordAt s _ (by omega), hbig, if_pos rfl, alignedWord_add_sub (by omega), hidx]
  | false =>
    rw [if_neg Bool.false_ne_true, if_neg Bool.false_ne_true]
    refine if_ctx_congr (by omega) (fun hle => ?_) fun _ => rfl
    have hidx : n + ea.toNat % 4 - ea.toNat % 4 = n := by omega
    rw [byteOf_wordAt s _ (by omega), hbig, if_neg Bool.false_ne_true, alignedWord_add (by omega), hidx]

end merges

/-- Settles O15: both are the shared load of a merge, and each byte of a merge comes from the aligned word or stays. -/
theorem loadWordLeftRight : Obligations.LoadWordLeftRight := by
  intro base rt o s ea a old
  refine ⟨fun hreach => ⟨_, load_of_reachable hreach 4 rt _, fun n hn => ?_⟩,
    fun hreach => ⟨_, load_of_reachable hreach 4 rt _, fun n hn => ?_⟩⟩
  · exact byteOf_lwl s ea (s.reg rt) hn
  · exact byteOf_lwr s ea (s.reg rt) hn

end Sys2Proof.Machine

/-! Stores (40_loadstore32.md R180 to R183, R185, 45_loadstore16.md R343 to R347): memory and the fetch window after bytes are
stored inside one aligned word, and the statements about stores (O16) and about SWL and SWR (O17). -/

namespace Sys2Proof.Machine

open Sys2Proof.Spec

/-! ### Bytes stored inside one aligned word -/

section cells

variable {s : State} {va : Word} {bytes : List Byte}

/-- Consecutive bytes inside one aligned word stand at consecutive physical addresses. -/
theorem physicalCells_cellsFrom (hin : va.toNat % 4 + bytes.length ≤ 4) :
    physicalCells (cellsFrom va bytes) = bytes.mapIdx fun i b => ((translate va).toNat + i, b) := by
  induction bytes generalizing va with
  | nil => rfl
  | cons b bs ih =>
    rw [List.length_cons] at hin
    cases bs with
    | nil => rfl
    | cons b' bs =>
      rw [List.length_cons] at hin
      have hnext : (va + 1).toNat = va.toNat + 1 := toNat_add_ofNat (i := 1) (by omega)
      have htranslate : (translate (va + 1)).toNat = (translate va).toNat + 1 := toNat_translate_add (i := 1) (by omega)
      have htail := ih (va := va + 1) (by rw [hnext, List.length_cons]; omega)
      rw [List.mapIdx_cons, cellsFrom, physicalCells, List.map_cons]
      refine congrArg₂ List.cons rfl (htail.trans ?_)
      simp only [htranslate, Nat.add_assoc, Nat.add_comm 1]

theorem map_fst_physicalCells (hin : va.toNat % 4 + bytes.length ≤ 4) :
    (physicalCells (cellsFrom va bytes)).map (·.1) = List.range' (translate va).toNat bytes.length := by
  rw [physicalCells_cellsFrom hin]
  exact List.ext_getElem (by simp) (by simp)

theorem nodup_physicalCells (hin : va.toNat % 4 + bytes.length ≤ 4) :
    ((physicalCells (cellsFrom va bytes)).map (·.1)).Nodup := by
  rw [map_fst_physicalCells hin]
  exact List.nodup_range'

theorem nodup_memoryCells (hin : va.toNat % 4 + bytes.length ≤ 4) :
    ((s.memoryCells (cellsFrom va bytes)).map (·.1)).Nodup := by
  exact (nodup_physicalCells hin).sublist (List.filter_sublist.map _)

/-- Memory after such a store: what is on a device stays, the named bytes are written, every other byte stays. -/
theorem memRead_stored (hwf : Memory.wf s.mem = true) (hin : va.toNat % 4 + bytes.length ≤ 4) (x : Nat) :
    memRead (memWriteAll s.mem (s.memoryCells (cellsFrom va bytes))) x =
      if s.product.isDevice x = true then memRead s.mem x
      else if (translate va).toNat ≤ x ∧ x < (translate va).toNat + bytes.length then bytes.getD (x - (translate va).toNat) 0
      else memRead s.mem x := by
  rw [memRead_memoryCells hwf]
  refine if_congr Iff.rfl rfl ?_
  split
  · next hx =>
    obtain ⟨i, hi⟩ : ∃ i, x = (translate va).toNat + i := ⟨x - (translate va).toNat, by omega⟩
    have hlt : i < bytes.length := by omega
    have hcell : (x, bytes[i]) ∈ physicalCells (cellsFrom va bytes) := by
      rw [physicalCells_cellsFrom hin, List.mem_mapIdx]
      exact ⟨i, hlt, by rw [hi]⟩
    rw [memRead_memWriteAll_mem hwf (fun _ => physicalCells_lt) (nodup_physicalCells hin) hcell, hi, Nat.add_sub_cancel_left,
      List.getD_eq_getElem _ _ hlt]
  · next hx =>
    refine memRead_memWriteAll_ne fun c hc heq => hx ?_
    have hmem := List.mem_map_of_mem (f := Prod.fst) hc
    rw [map_fst_physicalCells hin, ← heq, List.mem_range'_1] at hmem
    exact hmem

/-- The fetch window after such a store (20_memory.md R103). -/
theorem remembered_stored (hwf : Memory.wf s.mem = true) (hin : va.toNat % 4 + bytes.length ≤ 4) :
    Remembered s (memWriteAll s.mem (s.memoryCells (cellsFrom va bytes))) (windowAfter s (s.memoryCells (cellsFrom va bytes))) :=
  fun _ _ => mem_windowAfter hwf (fun _ hc => physicalCells_lt (mem_memoryCells.mp hc).1) (nodup_memoryCells hin)

end cells

/-- A store that meets nothing in its way completes with its cells stored. -/
theorem store_of_reachable {s : State} {ea : Word} {align : Nat} {cells : List (Word × Byte)}
    (h : Reachable s .store ea align (cells.map (·.1))) (len : Word) :
    store len ea align cells s = .next (doneAccess len { s with
      mem := memWriteAll s.mem (s.memoryCells cells), storeWindow := windowAfter s (s.memoryCells cells) }) := by
  obtain ⟨⟨hmode, hperm, hres⟩, hbus⟩ := h
  rw [store_granted hmode (access_granted hperm hres hbus), finishAs_access_eq_doneAccess]
  rfl

/-! ### The bytes of the register -/

theorem byteOf_eq_ofNat (w : Word) (n : Nat) : byteOf w n = BitVec.ofNat 8 (w.toNat / 256 ^ n) := by
  have hpow : 2 ^ (8 * n) = 256 ^ n := Nat.pow_mul 2 8 n
  rw [← hpow, ← Nat.shiftRight_eq_div_pow]
  rfl

theorem getD_wordBytes (big : Bool) (w : Word) {i : Nat} (hi : i < 4) :
    (wordBytes big w).getD i 0 = byteOf w (if big then 3 - i else i) := by
  have hplace : (if big then 3 - i else i) < 4 := by split <;> omega
  have hback : (if big then 3 - (if big then 3 - i else i) else (if big then 3 - i else i)) = i := by cases big <;> grind
  have hbyte := getElem?_wordBytes big w hplace
  rw [hback] at hbyte
  rw [List.getD_eq_getElem?_getD, hbyte, Option.getD_some]

theorem getD_halfBytes (big : Bool) (w : Word) {i : Nat} (hi : i < 2) :
    (halfBytes big (w.extractLsb' 0 16)).getD i 0 = byteOf w (if big then 1 - i else i) := by
  have hlow : (w.extractLsb' 0 16).extractLsb' 0 8 = w.extractLsb' 0 8 := by ext j; simp
  have hhigh : (w.extractLsb' 0 16).extractLsb' 8 8 = w.extractLsb' 8 8 := by ext j; simp
  simp only [halfBytes, hlow, hhigh]
  cases big <;> interval_cases i <;> rfl

/-- A store writes the low bytes of its value in the byte order of the product. -/
theorem getD_storedBytes (s : State) {f : StoreForm} (hwidth : f.width = 1 ∨ f.width = 2 ∨ f.width = 4) {i : Nat}
    (hi : i < f.width) :
    (storedBytes s f).getD i 0 = byteOf f.value (if s.product.bigEndian then f.width - 1 - i else i) := by
  obtain ⟨ea, width, value, len⟩ := f
  obtain rfl | rfl | rfl := hwidth
  · obtain rfl : i = 0 := by simpa using hi
    exact congrArg (byteOf value) (ite_self 0).symm
  · exact getD_halfBytes _ _ hi
  · exact getD_wordBytes _ _ hi

/-! ### The statement about stores -/

/-- Settles O16: every form runs the shared store, whose bytes stand inside one aligned word. -/
theorem stores : Obligations.Stores := by
  intro i s f hform hslot hreach hwf
  have hwidth := width_of_storeForm hform
  have hlen := length_storedBytes (s := s) hform
  have hcells : (cellsFrom f.ea (storedBytes s f)).map (·.1) = bytesFrom f.ea f.width := by rw [map_fst_cellsFrom, hlen]
  have hin : f.ea.toNat % 4 + (storedBytes s f).length ≤ 4 := by
    rw [hlen]
    exact mod_add_le_of_aligned hwidth hreach.1.2.1.1
  refine ⟨_, _, ?exec, ⟨wf_storeCells hwf s _, fun x => ?byte⟩, remembered_stored hwf hin⟩
  case exec =>
    rw [exec_of_storeForm hslot hform]
    exact store_of_reachable (hcells ▸ hreach) f.len
  case byte =>
    rw [memRead_stored hwf hin, hlen]
    by_cases hdev : s.product.isDevice x = true
    · rw [if_pos hdev, if_neg (by simp [hdev])]
    · rw [if_neg hdev]
      refine if_ctx_congr (by simp [hdev]) (fun hx => ?_) fun _ => rfl
      rw [getD_storedBytes s hwidth (by omega), byteOf_eq_ofNat]

/-! ### The statement about SWL and SWR -/

section partialStores

variable {s : State} {ea : Word}

theorem toNat_translate_alignedWord (ea : Word) : (translate ea).toNat = (translate (alignedWord ea)).toNat + ea.toNat % 4 := by
  have haligned : (alignedWord ea).toNat % 4 = 0 := by rw [toNat_alignedWord]; omega
  have hself : alignedWord ea + BitVec.ofNat 32 (ea.toNat % 4) = ea := by
    rw [alignedWord_add le_rfl, Nat.sub_self]
    exact BitVec.add_zero ea
  calc (translate ea).toNat = (translate (alignedWord ea + BitVec.ofNat 32 (ea.toNat % 4))).toNat := by rw [hself]
    _ = (translate (alignedWord ea)).toNat + ea.toNat % 4 := toNat_translate_add (by omega)

theorem getD_take_wordBytes (big : Bool) (w : Word) {k i : Nat} (hk : k ≤ 4) (hi : i < k) :
    ((wordBytes big w).take k).getD i 0 = byteOf w (if big then 3 - i else i) := by
  rw [List.getD_eq_getElem?_getD, List.getElem?_take_of_lt hi, ← List.getD_eq_getElem?_getD, getD_wordBytes big w (by omega)]

theorem getD_drop_wordBytes (big : Bool) (w : Word) {k i : Nat} (hi : k + i < 4) :
    ((wordBytes big w).drop k).getD i 0 = byteOf w (if big then 3 - (k + i) else k + i) := by
  rw [List.getD_eq_getElem?_getD, List.getElem?_drop, ← List.getD_eq_getElem?_getD, getD_wordBytes big w hi]

/-- A word stored from the addressed byte up to the end of the aligned word: its first bytes in memory order. -/
theorem memRead_partialCells_up (hwf : Memory.wf s.mem = true) (big : Bool) (w : Word) (x : Nat) :
    memRead (memWriteAll s.mem (s.memoryCells (partialCells true ea (wordBytes big w)))) x =
      if s.product.isDevice x = true then memRead s.mem x
      else if (translate ea).toNat ≤ x ∧ x ≤ (translate ea).toNat + (3 - ea.toNat % 4) then
        byteOf w (if big then 3 - (x - (translate ea).toNat) else x - (translate ea).toNat)
      else memRead s.mem x := by
  have hlen : ((wordBytes big w).take (4 - ea.toNat % 4)).length = 4 - ea.toNat % 4 := by
    rw [List.length_take, length_wordBytes]
    omega
  rw [partialCells, if_pos rfl, memRead_stored hwf (by omega), hlen]
  refine if_congr Iff.rfl rfl (if_ctx_congr (by omega) (fun hx => ?_) fun _ => rfl)
  rw [getD_take_wordBytes big w (by omega) (by omega)]

/-- A word stored from the start of the aligned word up to the addressed byte: its last bytes in memory order. -/
theorem memRead_partialCells_down (hwf : Memory.wf s.mem = true) (big : Bool) (w : Word) (x : Nat) :
    memRead (memWriteAll s.mem (s.memoryCells (partialCells false ea (wordBytes big w)))) x =
      if s.product.isDevice x = true then memRead s.mem x
      else if (translate ea).toNat - ea.toNat % 4 ≤ x ∧ x ≤ (translate ea).toNat then
        byteOf w (if big then (translate ea).toNat - x else 3 - ((translate ea).toNat - x))
      else memRead s.mem x := by
  have hlen : ((wordBytes big w).drop (3 - ea.toNat % 4)).length = ea.toNat % 4 + 1 := by
    rw [List.length_drop, length_wordBytes]
    omega
  have hword := toNat_alignedWord ea
  have hstart := toNat_translate_alignedWord ea
  rw [partialCells, if_neg Bool.false_ne_true, memRead_stored hwf (by omega), hlen]
  refine if_congr Iff.rfl rfl (if_ctx_congr (by omega) (fun hx => ?_) fun _ => rfl)
  rw [getD_drop_wordBytes big w (by omega)]
  refine congrArg (byteOf w) ?_
  split <;> omega

theorem remembered_partialCells (hwf : Memory.wf s.mem = true) (up : Bool) {bytes : List Byte} (hlen : bytes.length = 4) :
    Remembered s (memWriteAll s.mem (s.memoryCells (partialCells up ea bytes)))
      (windowAfter s (s.memoryCells (partialCells up ea bytes))) := by
  have hword := toNat_alignedWord ea
  cases up with
  | true => exact remembered_stored hwf (by rw [List.length_take]; omega)
  | false => exact remembered_stored hwf (by rw [List.length_drop]; omega)

end partialStores

/-- Settles O17: both store a part of the register's bytes in memory order, SWR the part SWL stores in the other byte order. -/
theorem storeWordLeftRight : Obligations.StoreWordLeftRight := by
  intro base rt o s ea a p byte hwf
  have hlen := length_wordBytes s.product.bigEndian (s.reg rt)
  have hvas (up : Bool) := map_fst_partialCells up ea hlen
  refine ⟨fun hreach => ⟨_, _, (exec_swl base rt o s).trans (store_of_reachable ((hvas _).symm ▸ hreach) 4),
      remembered_partialCells hwf _ hlen, fun x => ?left⟩,
    fun hreach => ⟨_, _, (exec_swr base rt o s).trans (store_of_reachable ((hvas _).symm ▸ rightBytes_eq _ ea ▸ hreach) 4),
      remembered_partialCells hwf _ hlen, fun x => ?right⟩⟩
  case left =>
    cases hbig : s.product.bigEndian with
    | true =>
      rw [memRead_partialCells_up hwf]
      simp only [byteOf_eq_ofNat, byte, p, a, ea, true_and, false_and, reduceCtorEq, ↓reduceIte]
    | false =>
      rw [memRead_partialCells_down hwf]
      simp only [byteOf_eq_ofNat, byte, p, a, ea, true_and, false_and, reduceCtorEq, ↓reduceIte]
  case right =>
    cases hbig : s.product.bigEndian with
    | true =>
      rw [Bool.not_true, memRead_partialCells_down hwf]
      simp only [byteOf_eq_ofNat, byte, p, a, ea, true_and, false_and, reduceCtorEq, ↓reduceIte]
    | false =>
      rw [Bool.not_false, memRead_partialCells_up hwf]
      simp only [byteOf_eq_ofNat, byte, p, a, ea, true_and, false_and, reduceCtorEq, ↓reduceIte]

end Sys2Proof.Machine

/-! Arithmetic of the 32-bit ISA (41_alu32.md R190 to R208): the words that the instructions compute as arithmetic on numbers, and the
statements about ADD, ADDI and SUB (O20), the other register forms (O21) and the other immediate forms (O22). -/

namespace Sys2Proof.Machine

open Sys2Proof.Spec

/-! ### Words as numbers -/

section words

variable {n : Nat} (a b : Word) (v : BitVec n)

theorem add_eq_ofInt : a + b = BitVec.ofInt 32 (a.toInt + b.toInt) := by
  rw [BitVec.ofInt_add, BitVec.ofInt_toInt, BitVec.ofInt_toInt]

theorem sub_eq_ofInt : a - b = BitVec.ofInt 32 (a.toInt - b.toInt) := by
  rw [Int.sub_eq_add_neg, BitVec.ofInt_add, BitVec.ofInt_neg, BitVec.ofInt_toInt, BitVec.ofInt_toInt, BitVec.sub_eq_add_neg]

theorem sext_eq_ofInt : sext v = BitVec.ofInt 32 v.toInt := rfl

theorem zext_eq_ofNat : zext v = BitVec.ofNat 32 v.toNat := (BitVec.ofNat_toNat 32 v).symm

theorem add_sext_eq_ofInt : a + sext v = BitVec.ofInt 32 (a.toInt + v.toInt) := by
  rw [sext_eq_ofInt, BitVec.ofInt_add, BitVec.ofInt_toInt]

/-- Sign extension keeps the number. -/
theorem toInt_sext (hn : n ≤ 32) : (sext v).toInt = v.toInt := BitVec.toInt_signExtend_of_le hn

/-- A halfword in the upper half of a word, with zeros below it (R208). -/
theorem append_zeros_eq_ofNat (imm : BitVec 16) : imm ++ 0#16 = BitVec.ofNat 32 (imm.toNat * 65536) := by
  have himm := imm.isLt
  apply BitVec.eq_of_toNat_eq
  rw [BitVec.toNat_append, BitVec.toNat_ofNat, BitVec.toNat_ofNat, Nat.zero_mod, Nat.or_zero, Nat.shiftLeft_eq]
  omega

end words

/-! ### The set instructions -/

theorem flag_decide (p : Prop) [Decidable p] : flag (decide p) = truth p := if_congr decide_eq_true_iff rfl rfl

theorem flag_lessSigned (a b : Word) : flag (lessSigned a b) = truth (a.toInt < b.toInt) := flag_decide _

theorem flag_lessUnsigned (a b : Word) : flag (lessUnsigned a b) = truth (a.toNat < b.toNat) := flag_decide _

/-! ### Overflow -/

section overflow

variable (a b : Word)

theorem bit31_eq_msb (w : Word) : bit w 31 = w.msb := by rw [bit_eq_getLsbD, BitVec.msb_eq_getLsbD_last]

/-- The sign rule of ADD and ADDI (R191): the sum does not fit a register. -/
theorem addOverflows_iff : addOverflows a b = true ↔ ¬ Fits (a.toInt + b.toInt) := by
  have hsigns : addOverflows a b = BitVec.saddOverflow a b := by
    rw [BitVec.saddOverflow_eq, addOverflows, bit31_eq_msb, bit31_eq_msb, bit31_eq_msb]
    rfl
  rw [hsigns, BitVec.saddOverflow, Bool.or_eq_true, decide_eq_true_iff, decide_eq_true_iff]
  omega

/-- The sign rule of SUB (R193): the difference does not fit a register. -/
theorem subOverflows_iff : subOverflows a b = true ↔ ¬ Fits (a.toInt - b.toInt) := by
  have hsigns : subOverflows a b = BitVec.ssubOverflow a b := by
    rw [BitVec.ssubOverflow_eq, subOverflows, bit31_eq_msb, bit31_eq_msb, bit31_eq_msb]
    cases a.msb <;> cases b.msb <;> simp
  rw [hsigns, BitVec.ssubOverflow, Bool.or_eq_true, decide_eq_true_iff, decide_eq_true_iff]
  omega

end overflow

/-! ### What the instructions do -/

/-- An instruction that only writes a register, in the words of the statements. -/
theorem writeReg_eq (len : Word) (rd : Reg) (v : Word) (s : State) : writeReg len rd v s = .next (done len (put s rd v)) := by
  rw [writeReg, setReg_eq_put, finish_eq_done]

/-- The word that such an instruction computes may be named by its arithmetic. -/
theorem exec_of_writeReg {i : Instr} {s : State} {len : Word} {rd : Reg} {v w : Word} (hexec : exec i s = writeReg len rd v s)
    (hv : v = w) : exec i s = .next (done len (put s rd w)) := by
  rw [hexec, writeReg_eq, hv]

/-- The two outcomes of ADD, ADDI and SUB with the exact result `x`: it fits the register, or Integer Overflow is raised (R470). -/
theorem trapping_outcomes {i : Instr} {s : State} {overflow : Bool} {rd : Reg} {v : Word} {x : Int}
    (hexec : exec i s = writeRegOrOverflow overflow rd v s) (hoverflow : overflow = true ↔ ¬ Fits x)
    (hv : v = BitVec.ofInt 32 x) :
    (Fits x → exec i s = .next (done 4 (put s rd (BitVec.ofInt 32 x)))) ∧
    (¬ Fits x → s.debugMode = false → Traps i s 12#5 none s.badVAddr) ∧
    (s.debugMode = true → ¬ Fits x → exec i s = .fault .exceptionInDebugMode) := by
  have hraise (hx : ¬ Fits x) : exec i s = raise .ov s := hexec.trans (if_pos (hoverflow.mpr hx))
  refine ⟨fun hx => ?_, fun hx hdebug => ?_, fun hdebug hx => ?_⟩
  · have hno : ¬ overflow = true := fun h => hoverflow.mp h hx
    rw [hexec, writeRegOrOverflow, if_neg hno, writeReg_eq, hv]
  · exact traps_of_exec_raise (hraise hx) hdebug rfl (by decide) (by simp)
  · exact (hraise hx).trans (raise_of_debugMode hdebug)

/-! ### The statements -/

/-- Settles O20: the sign rules say when the exact result does not fit, and what fits is the word computed. -/
theorem trappingArithmetic : Obligations.TrappingArithmetic := by
  intro rs rt rd imm s sum dif sumImm
  have himm : addOverflows (s.reg rs) (sext imm) = true ↔ ¬ Fits sumImm := by
    rw [addOverflows_iff, toInt_sext imm (by decide)]
  obtain ⟨haddFits, haddTraps, haddStops⟩ := trapping_outcomes (i := .add rs rt rd) rfl (addOverflows_iff _ _) (add_eq_ofInt _ _)
  obtain ⟨hsubFits, hsubTraps, hsubStops⟩ := trapping_outcomes (i := .sub rs rt rd) rfl (subOverflows_iff _ _) (sub_eq_ofInt _ _)
  obtain ⟨himmFits, himmTraps, himmStops⟩ := trapping_outcomes (i := .addi rs rt imm) rfl himm (add_sext_eq_ofInt _ _)
  exact ⟨haddFits, haddTraps, hsubFits, hsubTraps, himmFits, himmTraps,
    fun hdebug => ⟨haddStops hdebug, hsubStops hdebug, himmStops hdebug⟩⟩

/-- Settles O21: each form only writes rd, and the word it computes is the one of the statement. -/
theorem registerArithmetic : Obligations.RegisterArithmetic := by
  intro rs rt rd s a b
  exact ⟨exec_of_writeReg rfl (BitVec.add_def a b),
    exec_of_writeReg rfl (sub_eq_ofInt a b),
    exec_of_writeReg rfl rfl,
    exec_of_writeReg rfl rfl,
    exec_of_writeReg rfl rfl,
    exec_of_writeReg rfl BitVec.not_or,
    exec_of_writeReg rfl (flag_lessSigned a b),
    exec_of_writeReg rfl (flag_lessUnsigned a b)⟩

/-- Settles O22: each form only writes rt, and the word it computes from the extended immediate is the one of the statement. -/
theorem immediateArithmetic : Obligations.ImmediateArithmetic := by
  intro rs rt imm s a
  have hslti : flag (lessSigned a (sext imm)) = truth (a.toInt < imm.toInt) := by
    rw [flag_lessSigned, toInt_sext imm (by decide)]
  have hzext := zext_eq_ofNat imm
  exact ⟨exec_of_writeReg rfl (add_sext_eq_ofInt a imm),
    exec_of_writeReg rfl hslti,
    exec_of_writeReg rfl (flag_lessUnsigned a (sext imm)),
    exec_of_writeReg rfl (congrArg (a &&& ·) hzext),
    exec_of_writeReg rfl (congrArg (a ||| ·) hzext),
    exec_of_writeReg rfl (congrArg (a ^^^ ·) hzext),
    exec_of_writeReg rfl (append_zeros_eq_ofNat imm)⟩

end Sys2Proof.Machine

/-! Shifts, multiply and divide of both ISAs (42_shift_muldiv32.md R220 to R237, 47_shift_muldiv16.md R387 to R393): shifts as arithmetic
on numbers and the statement about the shifts of the 32-bit ISA (O23), the double word of HI and LO and the statements about the multiplies
(O24), the divisions (O25) and the moves (O26). -/

namespace Sys2Proof.Machine

open Sys2Proof.Spec

/-! ### Shifts as arithmetic -/

section shifts

variable (v : Word) (n : Nat)

theorem shiftLeft_eq_ofNat : v <<< n = BitVec.ofNat 32 (v.toNat * 2 ^ n) := by
  rw [← Nat.shiftLeft_eq]
  rfl

theorem ushiftRight_eq_ofNat : v >>> n = BitVec.ofNat 32 (v.toNat / 2 ^ n) := by
  rw [← Nat.shiftRight_eq_div_pow, ← BitVec.toNat_ushiftRight, BitVec.ofNat_toNat, BitVec.setWidth_eq]

theorem sshiftRight_eq_ofInt : v.sshiftRight n = BitVec.ofInt 32 (v.toInt / 2 ^ n) := by
  rw [BitVec.sshiftRight_eq, Int.shiftRight_eq_div_pow]
  push_cast
  rfl

/-- The low five bits of the register: the amount modulo 32 (R220). -/
theorem shiftAmount_eq_mod : shiftAmount v = v.toNat % 32 := by
  rw [shiftAmount, BitVec.extractLsb'_toNat, Nat.shiftRight_zero]

end shifts

/-- Settles O23: each shift only writes rd, and shifting is multiplication or division by the power of two. -/
theorem shifts32 : Obligations.Shifts32 := by
  intro rs rt rd sa s v n
  have hamount : shiftAmount (s.reg rs) = n := shiftAmount_eq_mod _
  exact ⟨exec_of_writeReg rfl (shiftLeft_eq_ofNat v _),
    exec_of_writeReg rfl (ushiftRight_eq_ofNat v _),
    exec_of_writeReg rfl (sshiftRight_eq_ofInt v _),
    exec_of_writeReg rfl (hamount ▸ shiftLeft_eq_ofNat v _),
    exec_of_writeReg rfl (hamount ▸ ushiftRight_eq_ofNat v _),
    exec_of_writeReg rfl (hamount ▸ sshiftRight_eq_ofInt v _)⟩

/-! ### The double word of HI and LO -/

theorem hiWord_append_loWord (p : BitVec 64) : hiWord p ++ loWord p = p := by
  rw [hiWord, loWord, BitVec.extractLsb'_append_extractLsb'_eq_extractLsb' (Nat.zero_add 32).symm]
  exact BitVec.extractLsb'_eq_self

/-- The signed product of two words fits a double word. -/
theorem toInt_productSigned (a b : Word) : (productSigned a b).toInt = a.toInt * b.toInt :=
  BitVec.toInt_ofInt_eq_self (by decide) (le_trans (by decide) BitVec.le_toInt_mul_toInt)
    (lt_of_le_of_lt BitVec.toInt_mul_toInt_le (by decide))

/-- The unsigned product of two words fits a double word. -/
theorem toNat_productUnsigned (a b : Word) : (productUnsigned a b).toNat = a.toNat * b.toNat := by
  have hfits : a.toNat * b.toNat < 2 ^ 32 * 2 ^ 32 := Nat.mul_lt_mul'' a.isLt b.isLt
  exact Nat.mod_eq_of_lt hfits

theorem add_productSigned_eq_ofInt (acc : BitVec 64) (a b : Word) :
    acc + productSigned a b = BitVec.ofInt 64 (acc.toInt + a.toInt * b.toInt) := by
  rw [BitVec.ofInt_add, BitVec.ofInt_toInt]
  rfl

theorem toNat_add_productUnsigned (acc : BitVec 64) (a b : Word) :
    (acc + productUnsigned a b).toNat = (acc.toNat + a.toNat * b.toNat) % 2 ^ 64 := by
  rw [BitVec.toNat_add, toNat_productUnsigned]

/-- A multiply of the 32-bit ISA in the words of the statements: HI and LO hold the double word `p`, rd its low word. -/
theorem exec_of_writeProduct {i : Instr} {s : State} {rd : Reg} {p : BitVec 64} (hexec : exec i s = writeProduct rd p s) :
    ∃ hi lo, exec i s = .next (done 4 (put { s with hi := hi, lo := lo } rd lo)) ∧ hi ++ lo = p := by
  refine ⟨hiWord p, loWord p, ?_, hiWord_append_loWord p⟩
  rw [hexec, writeProduct, setReg_eq_put, finish_eq_done]
  rfl

/-- A multiply of the 16-bit ISA in the same words; no general register takes the result. -/
theorem exec_of_setHiLo {i : Instr} {s : State} {len : Word} {p : BitVec 64} (hexec : exec i s = .next ((s.setHiLo p).finish len)) :
    ∃ hi lo, exec i s = .next (done len { s with hi := hi, lo := lo }) ∧ hi ++ lo = p := by
  refine ⟨hiWord p, loWord p, ?_, hiWord_append_loWord p⟩
  rw [hexec, finish_eq_done]
  rfl

/-- Settles O24: HI and LO are the halves of the double word computed, which is the exact result. -/
theorem multiply : Obligations.Multiply := by
  intro rs rt rd rx ry s a b acc
  obtain ⟨hi₁, lo₁, hmult, hp₁⟩ := exec_of_writeProduct (i := .mult rs rt rd) (s := s) rfl
  obtain ⟨hi₂, lo₂, hmultu, hp₂⟩ := exec_of_writeProduct (i := .multu rs rt rd) (s := s) rfl
  obtain ⟨hi₃, lo₃, hmadd, hp₃⟩ := exec_of_writeProduct (i := .madd rs rt rd) (s := s) rfl
  obtain ⟨hi₄, lo₄, hmaddu, hp₄⟩ := exec_of_writeProduct (i := .maddu rs rt rd) (s := s) rfl
  obtain ⟨hi₅, lo₅, hmult16, hp₅⟩ := exec_of_setHiLo (i := .mult16 rx ry) (s := s) rfl
  obtain ⟨hi₆, lo₆, hmultu16, hp₆⟩ := exec_of_setHiLo (i := .multu16 rx ry) (s := s) rfl
  exact ⟨⟨hi₁, lo₁, hmult, hp₁ ▸ toInt_productSigned a b⟩,
    ⟨hi₂, lo₂, hmultu, hp₂ ▸ toNat_productUnsigned a b⟩,
    ⟨hi₃, lo₃, hmadd, hp₃.trans (add_productSigned_eq_ofInt acc a b)⟩,
    ⟨hi₄, lo₄, hmaddu, hp₄ ▸ toNat_add_productUnsigned acc a b⟩,
    ⟨hi₅, lo₅, hmult16, hp₅ ▸ toInt_productSigned _ _⟩,
    ⟨hi₆, lo₆, hmultu16, hp₆ ▸ toNat_productUnsigned _ _⟩⟩

/-! ### Division -/

section division

variable {x y : Int}

theorem natAbs_tmod_lt (x : Int) (hy : y ≠ 0) : (x.tmod y).natAbs < y.natAbs := by
  rw [Int.natAbs_tmod]
  exact Nat.mod_lt _ (Int.natAbs_pos.mpr hy)

/-- The remainder of the truncated division has the sign of the dividend. -/
theorem tmod_eq_zero_or_neg_iff (x y : Int) : x.tmod y = 0 ∨ (x.tmod y < 0 ↔ x < 0) := by
  obtain hx | hx := le_or_gt 0 x
  · have hrem := Int.tmod_nonneg y hx
    omega
  · have hrem : 0 ≤ (-x).tmod y := Int.tmod_nonneg y (by omega)
    rw [Int.neg_tmod] at hrem
    omega

/-- Only -2^31 by -1 (decision D7) has the quotient 2^31, one too large for a register. -/
theorem fits_tdiv (hx : Fits x) (hy : y ≠ 0) (h : ¬ (x = -2 ^ 31 ∧ y = -1)) : Fits (x.tdiv y) := by
  have hle := Int.natAbs_tdiv_le_natAbs x y
  have hrem := natAbs_tmod_lt x hy
  have hquot := Int.tdiv_mul_add_tmod x y
  have hne : x.tdiv y ≠ 2 ^ 31 := by
    intro hq
    rw [hq] at hquot
    omega
  omega

/-- The remainder is smaller than the divisor. -/
theorem fits_tmod (x : Int) (hfits : Fits y) (hy : y ≠ 0) : Fits (x.tmod y) := by
  have hrem := natAbs_tmod_lt x hy
  omega

theorem fits_toInt (a : Word) : Fits a.toInt := ⟨a.le_toInt, a.toInt_lt⟩

theorem toInt_ofInt_of_fits (h : Fits x) : (BitVec.ofInt 32 x).toInt = x := BitVec.toInt_ofInt_eq_self (by decide) h.1 h.2

theorem toInt_ne_zero_of_toNat_ne_zero {b : Word} (hb : b.toNat ≠ 0) : b.toInt ≠ 0 := by
  have hlt := b.isLt
  rw [BitVec.toInt_eq_toNat_cond]
  split <;> omega

variable {a b : Word}

/-- The words of the truncated quotient and remainder, where the spec gives a result (R230, decision D8). -/
theorem dividedSigned_tdiv_tmod (hb : b.toNat ≠ 0) (h : ¬ (a.toInt = -2 ^ 31 ∧ b.toInt = -1)) :
    DividedSigned a b (BitVec.ofInt 32 (a.toInt.tdiv b.toInt)) (BitVec.ofInt 32 (a.toInt.tmod b.toInt)) := by
  have hb' := toInt_ne_zero_of_toNat_ne_zero hb
  have hquot := toInt_ofInt_of_fits (fits_tdiv (fits_toInt a) hb' h)
  have hrem := toInt_ofInt_of_fits (fits_tmod a.toInt (fits_toInt b) hb')
  rw [DividedSigned, hquot, hrem]
  exact ⟨(Int.tdiv_mul_add_tmod _ _).symm, natAbs_tmod_lt _ hb', tmod_eq_zero_or_neg_iff _ _⟩

/-- The words of the quotient and remainder of numbers (R231). -/
theorem dividedUnsigned_div_mod (hb : b.toNat ≠ 0) :
    DividedUnsigned a b (BitVec.ofNat 32 (a.toNat / b.toNat)) (BitVec.ofNat 32 (a.toNat % b.toNat)) := by
  have hquot : a.toNat / b.toNat < 2 ^ 32 := (Nat.div_le_self _ _).trans_lt a.isLt
  have hrem : a.toNat % b.toNat < 2 ^ 32 := (Nat.mod_le _ _).trans_lt a.isLt
  rw [DividedUnsigned, BitVec.toNat_ofNat, BitVec.toNat_ofNat, Nat.mod_eq_of_lt hquot, Nat.mod_eq_of_lt hrem]
  exact ⟨(Nat.div_add_mod' _ _).symm, Nat.mod_lt _ (Nat.pos_of_ne_zero hb)⟩

/-- What DIV does with HI and LO where the spec gives a result. -/
theorem dividedSigned_divSigned (s : State) (hb : b.toNat ≠ 0) (h : ¬ (a.toInt = -2 ^ 31 ∧ b.toInt = -1)) :
    DividedSigned a b (s.divSigned a b).lo (s.divSigned a b).hi := by
  have hopen : ¬ (b = 0 ∨ (a = 0x80000000 ∧ b = 0xFFFFFFFF)) := by
    rintro (rfl | ⟨rfl, rfl⟩)
    · exact hb rfl
    · exact h (by decide)
  rw [State.divSigned, if_neg hopen]
  exact dividedSigned_tdiv_tmod hb h

/-- What DIVU does with HI and LO where the spec gives a result. -/
theorem dividedUnsigned_divUnsigned (s : State) (hb : b.toNat ≠ 0) :
    DividedUnsigned a b (s.divUnsigned a b).lo (s.divUnsigned a b).hi := by
  have hopen : ¬ b = 0 := by
    rintro rfl
    exact hb rfl
  rw [State.divUnsigned, if_neg hopen]
  exact dividedUnsigned_div_mod hb

variable {i : Instr} {s : State} {len : Word}

/-- A signed division of either ISA in the words of the statements. -/
theorem exec_of_divSigned (hexec : exec i s = .next ((s.divSigned a b).finish len)) :
    ∃ hi lo, exec i s = .next (done len { s with hi := hi, lo := lo }) ∧
      (b.toNat ≠ 0 → ¬ (a.toInt = -2 ^ 31 ∧ b.toInt = -1) → DividedSigned a b lo hi) :=
  ⟨_, _, by rw [hexec, finish_eq_done, ← divSigned_eq], dividedSigned_divSigned s⟩

/-- An unsigned division of either ISA in the words of the statements. -/
theorem exec_of_divUnsigned (hexec : exec i s = .next ((s.divUnsigned a b).finish len)) :
    ∃ hi lo, exec i s = .next (done len { s with hi := hi, lo := lo }) ∧ (b.toNat ≠ 0 → DividedUnsigned a b lo hi) :=
  ⟨_, _, by rw [hexec, finish_eq_done, ← divUnsigned_eq], dividedUnsigned_divUnsigned s⟩

end division

/-- Settles O25: the forms of both ISAs run the same two divisions, which change only HI and LO. -/
theorem divide : Obligations.Divide := by
  intro rs rt rx ry s
  exact ⟨exec_of_divSigned rfl, exec_of_divUnsigned rfl, exec_of_divSigned rfl, exec_of_divUnsigned rfl⟩

/-! ### Moves -/

/-- Settles O26: a move from HI or LO only writes a register, a move to them only that one. -/
theorem hiLoMoves : Obligations.HiLoMoves := by
  intro r rx s
  exact ⟨exec_of_writeReg rfl rfl,
    exec_of_writeReg rfl rfl,
    congrArg Host.Outcome.next (finish_eq_done _ _),
    congrArg Host.Outcome.next (finish_eq_done _ _),
    exec_of_writeReg rfl rfl,
    exec_of_writeReg rfl rfl⟩

end Sys2Proof.Machine

/-! The boundary behind an untaken branch-likely (43_jump_branch32.md R250, R251, R271): its delay slot is skipped (O8). -/

namespace Sys2Proof.Machine

theorem boundary_of_nullified {s : State} {k : Slot} (hslot : s.slot = some k) (hnullify : k.nullify = true) :
    boundary s = .next { s with pc := k.target, slot := none } := by
  have hfilter : s.slot.filter (·.nullify) = some k := by rw [hslot, Option.filter_some, if_pos hnullify]
  rw [boundary, hfilter]

theorem step_of_not_resetDue {s : State} (h : s.resetDue = false) : step s = boundary s.sample :=
  if_neg (Bool.eq_false_iff.mp h)

/-- Settles O8: the boundary asks for a nullified slot before anything else but RESET. -/
theorem nullifiedSlotIsSkipped : Obligations.NullifiedSlotIsSkipped := by
  intro s k hreset hslot hnullify
  rw [step_of_not_resetDue hreset, boundary_of_nullified hslot hnullify]

end Sys2Proof.Machine

/-! Jumps and branches of the 32-bit ISA (43_jump_branch32.md): targets and conditions as arithmetic on numbers, what the shared
transfers do outside a delay slot, and the statements about the jumps (O27), the branches and branch-likelies (O28) and the linking
branches (O29). -/

namespace Sys2Proof.Machine

open Sys2Proof.Spec

/-! ### Targets -/

theorem toNat_append_eq_add {m n : Nat} (x : BitVec m) (y : BitVec n) : (x ++ y).toNat = 2 ^ n * x.toNat + y.toNat := by
  rw [BitVec.toNat_append, ← Nat.shiftLeft_add_eq_or_of_lt y.isLt, Nat.shiftLeft_eq, Nat.mul_comm]

/-- The region of the slot's address, the target field and the ISA mode, one behind the other (R256(a)). -/
theorem regionTarget_eq_targetRegion (s : State) (target : BitVec 26) (isa : Bool) :
    s.regionTarget target isa = targetRegion s target isa := by
  have hpc := (s.pc + 4).isLt
  have htarget := target.isLt
  have hisa : isa.toNat < 2 := isa.toNat_lt
  apply BitVec.eq_of_toNat_eq
  simp only [State.regionTarget, targetRegion, toNat_append_eq_add, BitVec.extractLsb'_toNat, Nat.shiftRight_eq_div_pow,
    BitVec.toNat_ofBool, BitVec.toNat_ofNat]
  omega

theorem branchTarget32_eq_target32 (s : State) (offset : BitVec 16) : s.branchTarget32 offset = target32 s offset := by
  have hoffset : (offset ++ 0#2).toInt = 4 * offset.toInt := BitVec.toInt_append_zero
  rw [State.branchTarget32, add_sext_eq_ofInt, hoffset, target32, BitVec.ofInt_add, BitVec.ofInt_toInt, BitVec.ofInt_add,
    BitVec.ofInt_add, BitVec.ofInt_toInt]
  rfl

/-! ### Conditions -/

section conditions

variable (v : Word)

theorem ltz_iff : ltz v = true ↔ v.toInt < 0 := by
  rw [ltz, bit31_eq_msb, BitVec.msb_eq_toInt, decide_eq_true_iff]

theorem lez_iff : lez v = true ↔ v.toInt ≤ 0 := by
  have hzero : v = 0 ↔ v.toInt = 0 := BitVec.toInt_inj.symm
  have hsign : bit v 31 = true ↔ v.toInt < 0 := ltz_iff v
  rw [lez, Bool.or_eq_true, beq_iff_eq, hsign, hzero]
  omega

theorem not_ltz_iff : (!ltz v) = true ↔ 0 ≤ v.toInt := by
  rw [Bool.not_eq_true', ← Bool.not_eq_true, ltz_iff, Int.not_lt]

theorem not_lez_iff : (!lez v) = true ↔ 0 < v.toInt := by
  rw [Bool.not_eq_true', ← Bool.not_eq_true, lez_iff, Int.not_le]

end conditions

/-! ### The shared transfers outside a delay slot -/

section transfers

variable {s : State}

theorem startTransfer_eq_jumped (len target : Word) (nullify : Bool) (s : State) :
    s.startTransfer len target nullify false = jumped len target nullify s := rfl

theorem jump_of_no_slot (hslot : s.slot = none) (len target : Word) : jump len target s = .next (jumped len target false s) :=
  outsideSlot_none hslot

theorem jumpLink_of_no_slot (hslot : s.slot = none) (len target : Word) (rd : Reg) (link : Word) :
    jumpLink len target rd link s = .next (jumped len target false (put s rd link)) := by
  rw [jumpLink, outsideSlot_none hslot, setReg_eq_put, startTransfer_eq_jumped]

theorem execJalr_of_ne {rs rd : Reg} (h : rd ≠ rs) (s : State) :
    execJalr rs rd s = jumpLink 4 (s.reg rs) rd s.link32 s := if_neg h

theorem branchLink_of_ne {rs : Reg} (h : rs ≠ ra) (likely taken : Bool) (offset : BitVec 16) (s : State) :
    branchLink rs likely taken offset s = outsideSlot .transferInDelaySlot s
      (.next ((s.setReg ra s.link32).startTransfer 4 (s.branchNext taken offset) (likely && !taken) false)) := if_neg h

theorem branchNext_true (s : State) (offset : BitVec 16) : s.branchNext true offset = target32 s offset :=
  branchTarget32_eq_target32 s offset

theorem branchNext_false (s : State) (offset : BitVec 16) : s.branchNext false offset = s.pc + 8 := rfl

variable {i : Instr} {taken : Bool} {cond : Prop} {offset : BitVec 16}

/-- The two outcomes of a branch from the state `t` behind its link, if it writes one: the target, or the address behind the slot,
which a likely one nullifies. -/
theorem branch_outcomes {likely : Bool} {t : State}
    (hexec : exec i s = .next (jumped 4 (s.branchNext taken offset) (likely && !taken) t)) (hcond : taken = true ↔ cond) :
    (cond → exec i s = .next (jumped 4 (target32 s offset) false t)) ∧
    (¬ cond → exec i s = .next (jumped 4 (s.pc + 8) likely t)) := by
  refine ⟨fun h => ?_, fun h => ?_⟩
  · rw [hexec, hcond.mpr h, branchNext_true, Bool.not_true, Bool.and_false]
  · rw [hexec, Bool.eq_false_iff.mpr (mt hcond.mp h), branchNext_false, Bool.not_false, Bool.and_true]

/-- A general branch in the words of the statements. -/
theorem branches_of_branch (hexec : exec i s = branch taken offset s) (hcond : taken = true ↔ cond) :
    Branches i s cond offset :=
  fun hslot => branch_outcomes (likely := false) (hexec.trans (outsideSlot_none hslot)) hcond

/-- A branch-likely in the words of the statements. -/
theorem branchesLikely_of_branchLikely (hexec : exec i s = branchLikely taken offset s) (hcond : taken = true ↔ cond) :
    BranchesLikely i s cond offset :=
  fun hslot => branch_outcomes (likely := true) (hexec.trans (outsideSlot_none hslot)) hcond

/-- A linking branch in the words of the statements: r31 is written in both outcomes. -/
theorem branchLink_outcomes {rs : Reg} {likely : Bool} (hslot : s.slot = none) (hrs : rs ≠ ra)
    (hexec : exec i s = branchLink rs likely taken offset s) (hcond : taken = true ↔ cond) :
    (cond → exec i s = .next (jumped 4 (target32 s offset) false (put s ra (s.pc + 8)))) ∧
    (¬ cond → exec i s = .next (jumped 4 (s.pc + 8) likely (put s ra (s.pc + 8)))) := by
  refine branch_outcomes ?_ hcond
  rw [hexec, branchLink_of_ne hrs, outsideSlot_none hslot, setReg_eq_put, startTransfer_eq_jumped, State.link32]

end transfers

/-! ### The statements -/

/-- Settles O27: the jumps are the two shared ones, and the region's target is the one of the statement. -/
theorem jumps32 : Obligations.Jumps32 := by
  intro target rs rd s hslot
  have hregion (isa : Bool) := regionTarget_eq_targetRegion s target isa
  refine ⟨?j, ?jal, ?jalx, jump_of_no_slot hslot 4 _, fun hne => ?jalr⟩
  case j => exact hregion _ ▸ jump_of_no_slot hslot 4 _
  case jal => exact hregion _ ▸ jumpLink_of_no_slot hslot 4 _ ra _
  case jalx => exact hregion _ ▸ jumpLink_of_no_slot hslot 4 _ ra _
  case jalr => exact (execJalr_of_ne hne s).trans (jumpLink_of_no_slot hslot 4 _ rd _)

/-- Settles O28: each is the shared branch or branch-likely on its condition. -/
theorem branches32 : Obligations.Branches32 := by
  intro rs rt o s
  exact ⟨branches_of_branch rfl beq_iff_eq,
    branches_of_branch rfl bne_iff_ne,
    branches_of_branch rfl (lez_iff _),
    branches_of_branch rfl (not_lez_iff _),
    branches_of_branch rfl (ltz_iff _),
    branches_of_branch rfl (not_ltz_iff _),
    branchesLikely_of_branchLikely rfl beq_iff_eq,
    branchesLikely_of_branchLikely rfl bne_iff_ne,
    branchesLikely_of_branchLikely rfl (lez_iff _),
    branchesLikely_of_branchLikely rfl (not_lez_iff _),
    branchesLikely_of_branchLikely rfl (ltz_iff _),
    branchesLikely_of_branchLikely rfl (not_ltz_iff _)⟩

/-- Settles O29: each is the shared linking branch on the sign of rs, and the two signs exclude each other. -/
theorem branchesAndLink : Obligations.BranchesAndLink := by
  intro rs o s hslot hrs linked
  obtain ⟨bltzal_taken, bltzal_not⟩ := branchLink_outcomes (i := .bltzal rs o) hslot hrs rfl (ltz_iff _)
  obtain ⟨bltzall_taken, bltzall_not⟩ := branchLink_outcomes (i := .bltzall rs o) hslot hrs rfl (ltz_iff _)
  obtain ⟨bgezal_taken, bgezal_not⟩ := branchLink_outcomes (i := .bgezal rs o) hslot hrs rfl (not_ltz_iff _)
  obtain ⟨bgezall_taken, bgezall_not⟩ := branchLink_outcomes (i := .bgezall rs o) hslot hrs rfl (not_ltz_iff _)
  refine ⟨fun hneg => ?_, fun hnonneg => ?_⟩
  · have hnot : ¬ 0 ≤ (s.reg rs).toInt := Int.not_le.mpr hneg
    exact ⟨bltzal_taken hneg, bltzall_taken hneg, bgezal_not hnot, bgezall_not hnot⟩
  · have hnot : ¬ (s.reg rs).toInt < 0 := Int.not_lt.mpr hnonneg
    exact ⟨bltzal_not hnot, bltzall_not hnot, bgezal_taken hnonneg, bgezall_taken hnonneg⟩

end Sys2Proof.Machine

/-! Where control transfers stop (43_jump_branch32.md R252, R255, R268, 44_coproc_special32.md R299, R307, 48_jump_branch16.md R406,
49_special_extend16.md R425(e)): the guard of the delay slot, and the statement about the stops (O32). -/

namespace Sys2Proof.Machine

open Sys2Proof.Spec

/-! ### The guards -/

section guards

variable {s : State} {k : Slot} {i : Instr}

/-- In a delay slot the guard stops before the instruction's own effect. -/
theorem outsideSlot_some (hslot : s.slot = some k) (f : Fault) (body : Result) : outsideSlot f s body = .fault f := by
  rw [outsideSlot, hslot]

/-- A linking branch may not test the register it writes (R268). -/
theorem branchLink_ra (likely taken : Bool) (offset : BitVec 16) (s : State) :
    branchLink ra likely taken offset s = .fault .linkOverwritesSource := if_pos rfl

theorem execJalr_self (rs : Reg) (s : State) : execJalr rs rs s = .fault .linkOverwritesSource := if_pos rfl

theorem ifCop_of_present {z : BitVec 2} (h : Present s z) (body : Result) : ifCop z s body = body := by
  obtain ⟨husable, hpresent⟩ := h
  rw [ifCop, ifUsable_of_usable husable, if_pos hpresent]

/-! ### Instructions in a delay slot -/

theorem exec_of_isTransfer (hslot : s.slot = some k) (h : isTransfer i = true) : exec i s = .fault .transferInDelaySlot := by
  cases i with
  | j | jal | jalx | jr | beq | bne | blez | bgtz | bltz | bgez | bltzl | bgezl | beql | bnel | blezl | bgtzl
  | jr16 | jrra | jalr16 | beqz | bnez | bteqz | btnez | b => exact outsideSlot_some hslot _ _
  | _ => cases h

theorem exec_of_isLinkTransfer (hslot : s.slot = some k) (h : isLinkTransfer i = true) :
    exec i s = .fault .transferInDelaySlot := by
  cases i with
  | jalr rs rd => exact (execJalr_of_ne (bne_iff_ne.mp h) s).trans (outsideSlot_some hslot _ _)
  | bltzal rs | bgezal rs | bltzall rs | bgezall rs =>
    exact (branchLink_of_ne (bne_iff_ne.mp h) _ _ _ s).trans (outsideSlot_some hslot _ _)
  | _ => cases h

theorem exec_of_coprocessorTransfer {z : BitVec 2} (hslot : s.slot = some k) (h : coprocessorTransfer i = some z)
    (husable : Usable s z) (hpresent : z = 0#2 ∨ (s.cop z).present = true) : exec i s = .fault .transferInDelaySlot := by
  cases i with
  | bc0f | bc0t | bc0fl | bc0tl | deret =>
    cases h
    exact (ifUsable_of_usable husable _).trans (outsideSlot_some hslot _ _)
  | bc1f | bc1t | bc1fl | bc1tl | bc2f | bc2t | bc2fl | bc2tl | bc3f | bc3t | bc3fl | bc3tl =>
    cases h
    exact (ifCop_of_present ⟨husable, hpresent.resolve_left (by decide)⟩ _).trans (outsideSlot_some hslot _ _)
  | _ => cases h

theorem exec_of_twoHalves (hslot : s.slot = some k) (h : twoHalves i = true) : exec i s = .fault .extendInDelaySlot := by
  cases i with
  | jal16 | jalx16 | extend | lbE | lbuE | lhE | lhuE | lwE | lwpcE | lwspE | sbE | shE | swE | swspE | swraspE
  | addiu3E | addiupcE | addiu8E | addiuspE | adjspE | sltiE | sltiuE | cmpiE | liE | sllE | srlE | sraE
  | beqzE | bnezE | bteqzE | btnezE | bE => exact outsideSlot_some hslot _ _
  | _ => cases h

end guards

/-! ### The statement -/

/-- Settles O32: in a delay slot every transfer and every two-halfword instruction comes to the guard, behind the checks of the link
register and of the coprocessor; the check of the link register stops in any state. -/
theorem transferStops : Obligations.TransferStops := by
  intro i rs o s k
  have hra (likely taken : Bool) := branchLink_ra likely taken o s
  refine ⟨fun hslot htransfer => ?_, fun z hslot => exec_of_coprocessorTransfer hslot, exec_of_twoHalves,
    execJalr_self rs s, hra false (ltz (s.reg ra)), hra false (!ltz (s.reg ra)), hra true (ltz (s.reg ra)),
    hra true (!ltz (s.reg ra))⟩
  obtain h | h := Bool.or_eq_true_iff.mp htransfer
  · exact exec_of_isTransfer hslot h
  · exact exec_of_isLinkTransfer hslot h

end Sys2Proof.Machine

/-! The usability check of the coprocessor instructions (44_coproc_special32.md R290, R291, R305, R308) and the instructions that only
raise an exception (R309, R310, R313, 49_special_extend16.md R421, R425): the statements about Coprocessor Unusable (O36), the stops
behind the check (O48) and the traps (O44). -/

namespace Sys2Proof.Machine

open Sys2Proof.Spec

/-! ### The check in front of an instruction -/

section checks

variable {i : Instr} {z : BitVec 2} {s : State}

theorem ifUsable_of_not_usable (h : ¬ Usable s z) (body : Result) : ifUsable z s body = raise (.cpu z) s :=
  if_neg (mt (usable_iff s z).mp h)

theorem ifCop_of_absent (husable : Usable s z) (habsent : (s.cop z).present = false) (body : Result) :
    ifCop z s body = .refused .coprocessorAbsent := by
  rw [ifCop, ifUsable_of_usable husable, habsent]
  rfl

/-- Every instruction of a coprocessor, and CACHE, is the check and a rest (R290). -/
theorem exists_exec_eq_ifUsable (h : coprocessorOf i = some z) (s : State) : ∃ body, exec i s = ifUsable z s body := by
  cases i with
  | mfc0 | mtc0 | cfc0 | ctc0 | bc0f | bc0t | bc0fl | bc0tl | rfe | deret | tlbr | tlbwi | tlbwr | tlbp | cache
  | mfc1 | mtc1 | cfc1 | ctc1 | cop1 | bc1f | bc1t | bc1fl | bc1tl
  | mfc2 | mtc2 | cfc2 | ctc2 | cop2 | bc2f | bc2t | bc2fl | bc2tl
  | mfc3 | mtc3 | cfc3 | ctc3 | cop3 | bc3f | bc3t | bc3fl | bc3tl =>
    cases h
    exact ⟨_, rfl⟩
  | _ => cases h

/-- For coprocessors 1 to 3 the rest begins with the check that the unit is there (R291). -/
theorem exists_exec_eq_ifCop (h : coprocessorOf i = some z) (hz : z ≠ 0#2) (s : State) :
    ∃ body, exec i s = ifCop z s body := by
  cases i with
  | mfc1 | mtc1 | cfc1 | ctc1 | cop1 | bc1f | bc1t | bc1fl | bc1tl
  | mfc2 | mtc2 | cfc2 | ctc2 | cop2 | bc2f | bc2t | bc2fl | bc2tl
  | mfc3 | mtc3 | cfc3 | ctc3 | cop3 | bc3f | bc3t | bc3fl | bc3tl =>
    cases h
    exact ⟨_, rfl⟩
  | mfc0 | mtc0 | cfc0 | ctc0 | bc0f | bc0t | bc0fl | bc0tl | rfe | deret | tlbr | tlbwi | tlbwr | tlbp | cache =>
    cases h
    exact absurd rfl hz
  | _ => cases h

end checks

/-! ### Raising an exception in either mode -/

/-- An instruction that raises such an exception takes it outside debug mode and stops in debug mode (60_exceptions.md R495(f)). -/
theorem raise_outcomes {i : Instr} {s : State} {e : Exn} {code : BitVec 5} {ce : Option (BitVec 2)}
    (hexec : exec i s = raise e s) (hcode : e.code = some code) (hint : code ≠ 0) (hce : ∀ z, ce = some z → e = .cpu z) :
    (s.debugMode = false → Traps i s code ce (e.badVAddrAfter s.badVAddr)) ∧
    (s.debugMode = true → exec i s = .fault .exceptionInDebugMode) :=
  ⟨fun hdebug => traps_of_exec_raise hexec hdebug hcode hint hce, fun hdebug => hexec.trans (raise_of_debugMode hdebug)⟩

/-! ### The statements -/

/-- Settles O36: each of these instructions comes to the check first, and where it fails the check raises CpU with the number of the
coprocessor. -/
theorem coprocessorUnusable : Obligations.CoprocessorUnusable := by
  intro i z s hcop hunusable
  obtain ⟨body, hexec⟩ := exists_exec_eq_ifUsable hcop s
  refine raise_outcomes (e := .cpu z) (hexec.trans (ifUsable_of_not_usable hunusable body)) rfl (by decide) ?_
  rintro _ ⟨⟩
  rfl

/-- Settles O48: CFC0, CTC0 and CACHE have nothing behind the check but the stop, and the instructions of an absent coprocessor come to
the check of its presence. -/
theorem coprocessorStops : Obligations.CoprocessorStops := by
  intro i z base rt rd op o s
  refine ⟨fun husable => ?_, fun hcop hz husable habsent => ?_⟩
  · have hpass (r : Refusal) := ifUsable_of_usable husable (.refused r)
    exact ⟨hpass _, hpass _, hpass _⟩
  · obtain ⟨body, hexec⟩ := exists_exec_eq_ifCop hcop hz s
    exact hexec.trans (ifCop_of_absent husable habsent body)

/-- Settles O44: each of them only raises its exception; EXTEND does so behind the guard of the delay slot. -/
theorem systemTraps : Obligations.SystemTraps := by
  intro code code6 z base rt o imm low s
  have outcomes {i : Instr} {e : Exn} {c : BitVec 5} (hexec : exec i s = raise e s) (hcode : e.code = some c) (hint : c ≠ 0) :=
    raise_outcomes (ce := none) hexec hcode hint (by simp)
  obtain ⟨syscall_traps, syscall_stops⟩ := outcomes (i := .syscall code) (e := .sys) rfl rfl (by decide)
  obtain ⟨brk_traps, brk_stops⟩ := outcomes (i := .brk code) (e := .bp) rfl rfl (by decide)
  obtain ⟨brk16_traps, brk16_stops⟩ := outcomes (i := .brk16 code6) (e := .bp) rfl rfl (by decide)
  obtain ⟨lwcz_traps, lwcz_stops⟩ := outcomes (i := .lwcz z base rt o) (e := .ri) rfl rfl (by decide)
  obtain ⟨swcz_traps, swcz_stops⟩ := outcomes (i := .swcz z base rt o) (e := .ri) rfl rfl (by decide)
  have extend_outcomes (hslot : s.slot = none) :=
    outcomes (i := .extend imm low) (e := .ri) (outsideSlot_none hslot) rfl (by decide)
  refine ⟨fun hdebug => ?_, fun hdebug => ?_, fun hdebug hslot => (extend_outcomes hslot).2 hdebug⟩
  · exact ⟨syscall_traps hdebug, brk_traps hdebug, brk16_traps hdebug, lwcz_traps hdebug, swcz_traps hdebug,
      fun hslot => (extend_outcomes hslot).1 hdebug⟩
  · simp only [List.forall_mem_cons]
    exact ⟨syscall_stops hdebug, brk_stops hdebug, brk16_stops hdebug, lwcz_stops hdebug, swcz_stops hdebug, nofun⟩

end Sys2Proof.Machine

/-! The moves, operations and branches of the coprocessors (44_coproc_special32.md R292 to R303): what a unit of 1 to 3 does where it is
usable and present, whichever it is, and the statements about moves and operations (O46) and branches (O47). -/

namespace Sys2Proof.Machine

open Sys2Proof.Spec

/-! ### Moves and operations of one unit -/

/-- An operation frees the condition line of its own unit alone (R298). -/
theorem getLsbD_openCondition_of_ne {z : BitVec 2} {n : Nat} (hn : n ≠ z.toNat) (tick : Nat) (lines : BitVec 4) :
    (openCondition z tick lines).getLsbD n = lines.getLsbD n := by
  have hline : (1#4 <<< z.toNat).getLsbD n = false := by
    rw [BitVec.getLsbD_shiftLeft, BitVec.getLsbD_one]
    grind
  rw [openCondition, BitVec.getLsbD_or, BitVec.getLsbD_and, BitVec.getLsbD_and, BitVec.getLsbD_not, hline]
  grind

/-- An operation does not remove its unit. -/
theorem Coprocessor.opened_present (z : BitVec 2) (tick : Nat) (c : Coprocessor) : (c.opened z tick).present = c.present := by
  rw [Coprocessor.opened]

section unit

variable {z : BitVec 2} {s : State}

/-- An instruction of a present unit that completes in the state `t`. -/
theorem ifCop_finish (h : Present s z) (t : State) : ifCop z s (.next (t.finish 4)) = .next (done 4 t) := by
  rw [ifCop_of_present h, finish_eq_done]

/-- The four moves of a present unit (R292 to R295). -/
theorem copMoves_of_present (h : Present s z) (rt rd : Reg) :
    mfcz z rt rd s = .next (done 4 (put s rt ((s.cop z).data[rd.toNat]'rd.isLt))) ∧
    cfcz z rt rd s = .next (done 4 (put s rt ((s.cop z).ctrl[rd.toNat]'rd.isLt))) ∧
    mtcz z rt rd s = .next (done 4 (s.setCop z { s.cop z with data := (s.cop z).data.set rd.toNat (s.reg rt) rd.isLt })) ∧
    ctcz z rt rd s = .next (done 4 (s.setCop z { s.cop z with ctrl := (s.cop z).ctrl.set rd.toNat (s.reg rt) rd.isLt })) := by
  rw [← setReg_eq_put, ← setReg_eq_put]
  exact ⟨ifCop_finish h _, ifCop_finish h _, ifCop_finish h _, ifCop_finish h _⟩

/-- The operation of a present unit (R298): the unit stays present, and the other condition lines stay. -/
theorem copz_of_present (h : Present s z) :
    ∃ c l, copz z s = .next (done 4 { s.setCop z c with cpcond := l }) ∧ c.present = true ∧
      ∀ n, n ≠ z.toNat → l.getLsbD n = s.cpcond.getLsbD n := by
  refine ⟨(s.cop z).opened z s.tick, openCondition z s.tick s.cpcond, ?_, ?_,
    fun _ hn => getLsbD_openCondition_of_ne hn s.tick s.cpcond⟩
  · rw [copz, ifCop_finish h]
  · rw [Coprocessor.opened_present, h.2]

end unit

/-! ### Branches -/

section branches

variable {z : BitVec 2} {s : State}

/-- The condition of a coprocessor branch is its line in the step before (R299). -/
theorem copCondition_eq (s : State) (z : BitVec 2) : s.copCondition z = s.cpcondPrev.getLsbD z.toNat :=
  (BitVec.getLsbD_eq_extractLsb' _ _).symm

/-- The four branches of one coprocessor, once past its checks (R300 to R303). -/
theorem copBranches {f t fl tl : Instr} {o : BitVec 16}
    (hf : exec f s = branch (s.copCondition z == false) o s) (ht : exec t s = branch (s.copCondition z == true) o s)
    (hfl : exec fl s = branchLikely (s.copCondition z == false) o s) (htl : exec tl s = branchLikely (s.copCondition z == true) o s) :
    Branches f s (¬ s.cpcondPrev.getLsbD z.toNat = true) o ∧ Branches t s (s.cpcondPrev.getLsbD z.toNat = true) o ∧
    BranchesLikely fl s (¬ s.cpcondPrev.getLsbD z.toNat = true) o ∧ BranchesLikely tl s (s.cpcondPrev.getLsbD z.toNat = true) o := by
  have hon : (s.copCondition z == true) = true ↔ s.cpcondPrev.getLsbD z.toNat = true := by rw [copCondition_eq, beq_iff_eq]
  have hoff : (s.copCondition z == false) = true ↔ ¬ s.cpcondPrev.getLsbD z.toNat = true := by
    rw [copCondition_eq, beq_iff_eq, Bool.not_eq_true]
  exact ⟨branches_of_branch hf hoff, branches_of_branch ht hon, branchesLikely_of_branchLikely hfl hoff,
    branchesLikely_of_branchLikely htl hon⟩

end branches

/-! ### The statements -/

/-- Settles O46: the instructions of the three units are the shared ones at their numbers. -/
theorem coprocessorMoves : Obligations.CoprocessorMoves := by
  intro rt rd f s
  have unit {z : BitVec 2} (h : Present s z) := And.intro (copMoves_of_present h rt rd) (copz_of_present h)
  refine ⟨fun h1 => ?_, fun h2 => ?_, fun h3 => ?_⟩
  · obtain ⟨⟨hmfc, hcfc, hmtc, hctc⟩, hcop⟩ := unit h1
    exact ⟨hmfc, hcfc, hmtc, hctc, hcop⟩
  · obtain ⟨⟨hmfc, hcfc, hmtc, hctc⟩, hcop⟩ := unit h2
    exact ⟨hmfc, hcfc, hmtc, hctc, hcop⟩
  · obtain ⟨⟨hmfc, hcfc, hmtc, hctc⟩, hcop⟩ := unit h3
    exact ⟨hmfc, hcfc, hmtc, hctc, hcop⟩

/-- Settles O47: behind their checks the branches of every coprocessor are the shared branch and branch-likely on its line. -/
theorem coprocessorBranches : Obligations.CoprocessorBranches := by
  intro o s on
  refine ⟨fun husable => ?_, fun h1 => ?_, fun h2 => ?_, fun h3 => ?_⟩
  · have hpass := ifUsable_of_usable husable
    exact copBranches (z := 0#2) (hpass _) (hpass _) (hpass _) (hpass _)
  · have hpass := ifCop_of_present h1
    exact copBranches (z := 1#2) (hpass _) (hpass _) (hpass _) (hpass _)
  · have hpass := ifCop_of_present h2
    exact copBranches (z := 2#2) (hpass _) (hpass _) (hpass _) (hpass _)
  · have hpass := ifCop_of_present h3
    exact copBranches (z := 3#2) (hpass _) (hpass _) (hpass _) (hpass _)

end Sys2Proof.Machine

/-! The moves of CP0 (44_coproc_special32.md R296, R297, 10_state.md R33 to R66): the bits that each write leaves, what MFC0 and MTC0 do
behind the usability check, and the statements about MFC0 (O37) and about MTC0 to Status (O38), to IE (O39) and to the other registers
(O40). -/

namespace Sys2Proof.Machine

open Sys2Proof.Spec

/-! ### The registers -/

/-- The nine register numbers of the spec (10_state.md R20). -/
theorem listedCp0_iff : ∀ rd : Reg, listedCp0 rd = true ↔ rd.toNat ∈ [3, 8, 12, 13, 14, 15, 16, 17, 31] := by decide

/-! ### The bits of the registers read and written -/

section bits

variable {n : Nat} (old v : Word)

/-- Status after MTC0, bit by bit (10_state.md R44, R48). -/
theorem getLsbD_statusWritten (hn : n < 32) : (statusWritten old v).getLsbD n =
    if n = 20 then old.getLsbD 20 && !v.getLsbD 20
    else if n ∈ [6, 7, 12, 19, 21, 23, 24, 25, 26, 27] then false else v.getLsbD n := by
  have hwritable : ∀ n < 32, (0xF047EF3F : Word).getLsbD n = decide (n ≠ 20 ∧ n ∉ [6, 7, 12, 19, 21, 23, 24, 25, 26, 27]) := by
    decide
  have hcleared : ∀ n < 32, (0x00100000 : Word).getLsbD n = decide (n = 20) := by decide
  rw [statusWritten, BitVec.getLsbD_or, BitVec.getLsbD_and, BitVec.getLsbD_and, BitVec.getLsbD_and, BitVec.getLsbD_not,
    hwritable n hn, hcleared n hn]
  by_cases h20 : n = 20
  · simp [h20]
  · by_cases hreserved : n ∈ [6, 7, 12, 19, 21, 23, 24, 25, 26, 27] <;>
      simp only [h20, hreserved, ne_eq, not_true_eq_false, not_false_eq_true, and_self, and_false, decide_true, decide_false,
        Bool.and_true, Bool.and_false, Bool.false_and, Bool.or_false, if_true, if_false]

/-- Status after MTC0 to IE, bit by bit (10_state.md R58). -/
theorem getLsbD_statusEnabled (hn : n < 32) : ((old &&& 0xFFFFFFFE) ||| (if v = 0 then 0 else 1)).getLsbD n =
    if n = 0 then v != 0 else old.getLsbD n := by
  have hkept : ∀ n < 32, (0xFFFFFFFE : Word).getLsbD n = decide (n ≠ 0) := by decide
  have hset : (if v = 0 then 0 else 1 : Word).getLsbD n = (decide (n = 0) && v != 0) := by
    split <;> simp_all
  rw [BitVec.getLsbD_or, BitVec.getLsbD_and, hkept n hn, hset]
  by_cases h0 : n = 0 <;> simp [h0]

/-- Cause after MTC0, bit by bit (10_state.md R53). -/
theorem getLsbD_causeWritten (hn : n < 32) : ((old &&& 0xFFFFF0FF) ||| (v &&& 0x00000F00)).getLsbD n =
    if 8 ≤ n ∧ n < 12 then v.getLsbD n else old.getLsbD n := by
  have hkept : ∀ n < 32, (0xFFFFF0FF : Word).getLsbD n = decide (¬ (8 ≤ n ∧ n < 12)) := by decide
  have htaken : ∀ n < 32, (0x00000F00 : Word).getLsbD n = decide (8 ≤ n ∧ n < 12) := by decide
  rw [BitVec.getLsbD_or, BitVec.getLsbD_and, BitVec.getLsbD_and, hkept n hn, htaken n hn]
  by_cases hsw : 8 ≤ n ∧ n < 12 <;> simp [hsw]

/-- Debug after MTC0, bit by bit (10_state.md R62, R65). -/
theorem getLsbD_debugWritten (hn : n < 32) : (debugWritten old v).getLsbD n =
    if n = 8 then v.getLsbD 8 else if n = 10 then old.getLsbD 10 && !v.getLsbD 10 else old.getLsbD n := by
  have hkept : ∀ n < 32, (0xFFFFFEFF : Word).getLsbD n = decide (n ≠ 8) := by decide
  have hcleared : ∀ n < 32, (0x00000400 : Word).getLsbD n = decide (n = 10) := by decide
  have htaken : ∀ n < 32, (0x00000100 : Word).getLsbD n = decide (n = 8) := by decide
  rw [debugWritten, BitVec.getLsbD_or, BitVec.getLsbD_and, BitVec.getLsbD_and, BitVec.getLsbD_and, BitVec.getLsbD_not,
    BitVec.getLsbD_and, hkept n hn, hcleared n hn, htaken n hn]
  by_cases h8 : n = 8
  · simp [h8]
  · by_cases h10 : n = 10 <;> simp [h8, h10, hn]

/-- A mask that holds every stored bit of a register changes nothing of it. -/
theorem and_eq_self_of_stored {w stored k : Word} (h : w &&& ~~~stored = 0) (hk : stored &&& k = stored) : w &&& k = w := by
  have hw : w &&& stored = w := by
    calc w &&& stored = (w &&& stored) ||| (w &&& ~~~stored) := by rw [h]; exact BitVec.or_zero.symm
      _ = w := by rw [← BitVec.and_or_distrib_left, BitVec.or_not_self, BitVec.and_allOnes]
  calc w &&& k = w &&& (stored &&& k) := by rw [← BitVec.and_assoc, hw]
    _ = w := by rw [hk, hw]

/-- Outside IL the word stays. -/
theorem setCmask_and (w : Word) (level : BitVec 3) : setCmask w level &&& 0xFFFF1FFF = w &&& 0xFFFF1FFF := by
  have houtside : ∀ n < 32, (0xFFFF1FFF : Word).getLsbD n = decide (n < 13 ∨ 16 ≤ n) := by decide
  refine BitVec.eq_of_getLsbD_eq fun n hn => ?_
  rw [BitVec.getLsbD_and, BitVec.getLsbD_and, houtside n hn]
  by_cases h : 13 ≤ n ∧ n < 16
  · rw [decide_eq_false (by omega), Bool.and_false, Bool.and_false]
  · rw [getLsbD_setCmask_of_outside h]

/-- What MFC0 reads from Debug outside the bits of unspecified value (10_state.md R59). -/
theorem debugRead_and {debug : Word} (w : Word) (h : debug &&& ~~~debugMask = 0) :
    (debug ||| (w &&& debugOpenMask)) &&& 0xFFFFD7C3 = debug := by
  rw [BitVec.and_or_distrib_right, and_mask_and_eq_zero w (by decide), and_eq_self_of_stored h (by decide)]
  exact BitVec.or_zero

end bits

/-! ### The two instructions behind the check -/

theorem finishAs_eq_done (s : State) (p : Prev) (len : Word) : s.finishAs p len = { done len s with prev := p } := by
  rw [State.finishAs, finish_eq_done]

section moves

variable {rt rd : Reg} {s t : State}

theorem exec_mfc0_listed (husable : Usable s 0#2) (hlisted : listedCp0 rd = true) :
    exec (.mfc0 rt rd) s = .next { done 4 (put s rt (s.cp0Read rd)) with prev := .mfc0 rt rd } := by
  refine (ifUsable_of_usable husable _).trans ?_
  rw [if_pos hlisted, setReg_eq_put, finishAs_eq_done]

theorem exec_mfc0_unlisted (husable : Usable s 0#2) (hlisted : listedCp0 rd = false) :
    exec (.mfc0 rt rd) s = .refused .unlistedCp0Register := by
  refine (ifUsable_of_usable husable _).trans ?_
  rw [hlisted]
  rfl

theorem exec_mtc0 (husable : Usable s 0#2) : exec (.mtc0 rt rd) s = mtc0Effect rd (s.reg rt) s :=
  ifUsable_of_usable husable _

theorem exec_mtc0_unlisted (husable : Usable s 0#2) (hlisted : listedCp0 rd = false) :
    exec (.mtc0 rt rd) s = .refused .unlistedCp0Register := by
  rw [exec_mtc0 husable, mtc0Effect, hlisted]
  rfl

/-- Status.RE may not be written 1 (10_state.md R42). -/
theorem mtc0Effect_reverseEndian {v : Word} (h : v.getLsbD 25 = true) : mtc0Effect 12#5 v s = .fault .reverseEndianWritten :=
  if_pos ((bit_eq_getLsbD v 25).trans h)

/-- Config.Halt and Config.Doze may not be written 1 together (10_state.md R36). -/
theorem mtc0Effect_haltAndDoze {v : Word} (h : (bit (s.cp0Write 3#5 v).config 8 && bit (s.cp0Write 3#5 v).config 9) = true) :
    mtc0Effect 3#5 v s = .fault .haltAndDoze :=
  if_pos h

/-- Status.KUc may not change directly behind a load or store (20_memory.md R105). -/
theorem mtc0Effect_besideAccess {v : Word} (hendian : bit v 25 = false)
    (hchanged : (bit s.status 1 != bit (s.cp0Write 12#5 v).status 1) = true) (haccess : s.prev = .access) :
    mtc0Effect 12#5 v s = .fault .modeChangeBesideAccess := by
  have hunendian : (12#5 == 12#5 && bit v 25) = false := by rw [hendian, Bool.and_false]
  rw [mtc0Effect]
  simp only [hunendian, hchanged, haccess]
  rfl

/-- An MTC0 that meets none of its stops (U11, U12, U21, U24) writes its register and leaves its note. -/
theorem exec_mtc0_completes {changed : Bool} (husable : Usable s 0#2) (hlisted : listedCp0 rd = true)
    (hwrite : s.cp0Write rd (s.reg rt) = t) (hchanged : (bit s.status 1 != bit t.status 1) = changed)
    (hendian : rd = 12#5 → bit (s.reg rt) 25 = false) (hstop : rd = 3#5 → (bit t.config 8 && bit t.config 9) = false)
    (haccess : changed = true → s.prev ≠ .access) :
    exec (.mtc0 rt rd) s = .next (doneMtc0 rd changed t) := by
  have hunendian : (rd == 12#5 && bit (s.reg rt) 25) = false := by simpa using hendian
  have hunstopped : (rd == 3#5 && bit t.config 8 && bit t.config 9) = false := by simpa using hstop
  have hunaccessed : (changed && s.prev == .access) = false := by simpa using haccess
  rw [exec_mtc0 husable, mtc0Effect]
  simp only [hwrite, hchanged, hlisted, hunendian, hunstopped, hunaccessed, finishAs_eq_done]
  rfl

/-- The same for a write that leaves Status.KUc, to a register other than Status. -/
theorem exec_mtc0_keepsMode (husable : Usable s 0#2) (hlisted : listedCp0 rd = true) (hne : rd ≠ 12#5)
    (hwrite : s.cp0Write rd (s.reg rt) = t) (hmode : bit t.status 1 = bit s.status 1)
    (hstop : rd = 3#5 → (bit t.config 8 && bit t.config 9) = false) :
    exec (.mtc0 rt rd) s = .next (doneMtc0 rd false t) :=
  exec_mtc0_completes husable hlisted hwrite (by rw [hmode, bne_self_eq_false]) (absurd · hne) hstop nofun

end moves

/-! ### The statements -/

/-- Settles O37: the value is the one read from the register; of Cause it is the stored word with the request level in IL, and of Debug
the stored word with any value in the bits of unspecified value. -/
theorem moveFromCp0 : Obligations.MoveFromCp0 := by
  intro rt rd s hinv husable
  obtain ⟨-, -, -, -, hcause, hdebug, -⟩ := hinv
  refine ⟨fun hlisted => ?_, fun hunlisted => ?_, fun _ => rfl⟩
  · refine ⟨s.cp0Read rd, exec_mfc0_listed husable ((listedCp0_iff rd).mpr hlisted), ?_, ?_, ?_, ?cause, ?_, ?prid, ?debug, ?_⟩
    case cause =>
      rintro rfl
      exact ⟨cmask_setCmask s.cause s.irqLevel,
        (setCmask_and s.cause s.irqLevel).trans (and_eq_self_of_stored hcause (by decide))⟩
    case prid =>
      rintro rfl
      exact toNat_append_eq_add 0x2C#24 s.product.pridRev
    case debug =>
      rintro rfl
      exact debugRead_and _ hdebug
    all_goals
      rintro rfl
      rfl
  · exact exec_mfc0_unlisted husable (Bool.eq_false_iff.mpr (mt (listedCp0_iff rd).mp hunlisted))

/-- Settles O38: what MTC0 leaves in Status is known bit by bit, so KUc changes exactly where the source differs from it there. -/
theorem moveToStatus : Obligations.MoveToStatus := by
  intro rt s _ husable
  have hbits (n : Nat) (hn : n < 32) := getLsbD_statusWritten s.status (s.reg rt) hn
  have hku : (bit s.status 1 != bit (statusWritten s.status (s.reg rt)) 1) = ((s.reg rt).getLsbD 1 != s.status.getLsbD 1) := by
    rw [bit_eq_getLsbD, bit_eq_getLsbD, hbits 1 (by decide)]
    exact bne_comm
  refine ⟨fun hendian haccess => ?_, fun hendian => ?_, fun hendian haccess hchanged => ?_, fun _ _ _ => ⟨rfl, rfl⟩⟩
  · refine ⟨statusWritten s.status (s.reg rt), ?_, hbits⟩
    refine exec_mtc0_completes husable rfl rfl hku (fun _ => ?_) (absurd · (by decide)) fun hchanged hprev => ?_
    · rw [bit_eq_getLsbD, hendian]
    · rw [haccess hprev, bne_self_eq_false] at hchanged
      cases hchanged
  · rw [exec_mtc0 husable]
    exact mtc0Effect_reverseEndian hendian
  · rw [exec_mtc0 husable]
    exact mtc0Effect_besideAccess ((bit_eq_getLsbD _ _).trans hendian) (hku.trans (bne_iff_ne.mpr hchanged)) haccess

/-- Settles O39: the write leaves every bit of Status but IEc, KUc among them. -/
theorem moveToIe : Obligations.MoveToIe := by
  intro rt s husable
  have hbits (n : Nat) (hn : n < 32) := getLsbD_statusEnabled s.status (s.reg rt) hn
  refine ⟨(s.status &&& 0xFFFFFFFE) ||| (if s.reg rt = 0 then 0 else 1), ?_, hbits 0 (by decide), fun n h0 hn => ?_⟩
  · refine exec_mtc0_keepsMode husable rfl (by decide) rfl ?_ (absurd · (by decide))
    rw [bit_eq_getLsbD, bit_eq_getLsbD]
    exact hbits 1 (by decide)
  · rw [hbits n hn, if_neg (by omega)]

/-- Settles O40: each write changes its own register, so KUc stays; Config also asks for its lock and for Halt and Doze. -/
theorem moveToOtherCp0 : Obligations.MoveToOtherCp0 := by
  intro rt s husable v
  have completes {rd : Reg} {t : State} (hrd : listedCp0 rd = true ∧ rd ≠ 12#5 ∧ rd ≠ 3#5) (hwrite : s.cp0Write rd v = t)
      (hstatus : t.status = s.status) : exec (.mtc0 rt rd) s = .next (doneMtc0 rd false t) := by
    obtain ⟨hlisted, hne, hconfig⟩ := hrd
    exact exec_mtc0_keepsMode husable hlisted hne hwrite (by rw [hstatus]) (absurd · hconfig)
  have hunlocked (h : s.config.getLsbD 7 = false ∨ s.debugMode = true) :
      s.cp0Write 3#5 v = { s with config := v &&& 0xFB0 } := by
    rw [State.cp0Write_config, bit_eq_getLsbD, if_neg (by grind)]
    rfl
  have hstopBits : (bit (v &&& 0xFB0) 8 && bit (v &&& 0xFB0) 9) = (v.getLsbD 8 && v.getLsbD 9) := by
    simp [bit_eq_getLsbD]
  refine ⟨fun hlock hmode hstop => ?_, fun hopen hstop => ?_, fun hopen hstop => ?_, fun rd hrd => ?_,
    ⟨(s.cause &&& 0xFFFFF0FF) ||| (v &&& 0x00000F00), ?_, ?_⟩, ?_, ⟨debugWritten s.debug v, ?_, ?_⟩, ?_, ?_, ?_⟩
  · have hlocked : s.cp0Write 3#5 v = s := by rw [State.cp0Write_config, bit_eq_getLsbD, hlock, hmode]; rfl
    exact exec_mtc0_keepsMode husable rfl (by decide) hlocked rfl fun _ => by rw [bit_eq_getLsbD, bit_eq_getLsbD, hstop]
  · exact exec_mtc0_keepsMode husable rfl (by decide) (hunlocked hopen) rfl fun _ => hstopBits.trans hstop
  · rw [exec_mtc0 husable]
    refine mtc0Effect_haltAndDoze ?_
    rw [hunlocked hopen]
    exact hstopBits.trans hstop
  · exact exec_mtc0_unlisted husable (Bool.eq_false_iff.mpr (mt (listedCp0_iff rd).mp hrd))
  · exact completes (by decide) rfl rfl
  · exact fun n hn => getLsbD_causeWritten s.cause v hn
  · exact completes (by decide) rfl rfl
  · exact completes (by decide) rfl rfl
  · exact fun n hn => getLsbD_debugWritten s.debug v hn
  · exact completes (by decide) rfl rfl
  · exact completes (by decide) rfl rfl
  · exact completes (by decide) rfl rfl

end Sys2Proof.Machine

/-! Debug mode (44_coproc_special32.md R307, R311, 60_exceptions.md R489, R490, R494, 70_reset_and_hazards.md R536): Debug after an entry
bit by bit, and the statements about SDBBP (O45) and about DERET and the hazards of the two returns (O42). -/

namespace Sys2Proof.Machine

open Sys2Proof.Spec

/-! ### Entry -/

/-- Debug after the entry of a debug exception, bit by bit (60_exceptions.md R490). -/
theorem getLsbD_debugAfter (k : DebugKind) (dbd nis oes : Bool) (old : Word) {n : Nat} (hn : n < 32) :
    (debugAfter k dbd nis oes old).getLsbD n =
      if n = 31 then dbd else if n = 30 then true else if n = 14 then nis else if n = 12 then oes
      else if n = 10 ∨ n = 8 then old.getLsbD n else if n = 1 then k == .breakpoint else if n = 0 then k == .singleStep
      else false := by
  simp only [debugAfter, BitVec.getLsbD_append, BitVec.getLsbD_extractLsb', BitVec.getLsbD_ofBool, BitVec.getLsbD_zero]
  -- one case for each bit of the register
  interval_cases n <;> simp

section debug

variable {s : State}

theorem debugBreakpoint_of_debugMode (h : s.debugMode = true) : debugBreakpoint s = .fault .sdbbpInDebugMode := if_pos h

theorem debugBreakpoint_of_not_debugMode (h : s.debugMode = false) :
    debugBreakpoint s = .next (s.takeDebug .breakpoint false false) := if_neg (Bool.eq_false_iff.mp h)

/-- What a debug exception writes (R489, R490). -/
theorem takeDebug_eq (k : DebugKind) (nis oes : Bool) (s : State) : s.takeDebug k nis oes =
    { s with pc := 0xBFC00200, depc := savedPc s, debug := (s.takeDebug k nis oes).debug, slot := none, ssSkip := false,
             prev := .entry, storeWindow := [] } := by
  rw [State.takeDebug_debug, State.takeDebug, restart_eq]
  rfl

/-! ### Return -/

/-- CP0 is usable in debug mode whatever Status says (10_state.md R75, R290). -/
theorem usable_zero_of_debugMode (h : s.debugMode = true) : Usable s 0#2 := by
  refine .inr ⟨rfl, ?_⟩
  rw [State.userMode, h]
  rfl

theorem exec_deret (husable : Usable s 0#2) (hslot : s.slot = none) : exec .deret s =
    if s.debugMode then
      .next ({ s with
        debug := if s.prev.touched 16#5 then Config.freeWord s.tick .debugAfterDeret &&& debugMask else s.debug }.startTransfer 4
          (if s.depcWait = 0 then s.depc else Config.freeWord s.tick .deretTarget) false true)
    else .fault .deretOutsideDebugMode :=
  (ifUsable_of_usable husable _).trans (outsideSlot_none hslot)

end debug

/-! ### The statements -/

/-- Settles O42: in their hazards DERET and RFE mask a free value with the stored bits of Debug and of Status. -/
theorem debugReturn : Obligations.DebugReturn := by
  intro s
  refine ⟨fun hdebug hslot => ?_, fun hdebug hslot husable => ?_, fun husable htouched => ?_⟩
  · have hexec := (exec_deret (usable_zero_of_debugMode hdebug) hslot).trans (if_pos hdebug)
    refine ⟨_, _, hexec, fun h => ?_, fun h => ?_, fun h => if_pos h⟩
    · rw [h]; rfl
    · rw [if_pos h]
      exact and_mask_and_eq_zero _ (by decide)
  · exact (exec_deret husable hslot).trans (if_neg (Bool.eq_false_iff.mp hdebug))
  · refine ⟨Config.freeWord s.tick .statusAfterRfe &&& statusMask, ?_, and_mask_and_eq_zero _ (by decide)⟩
    refine (ifUsable_of_usable husable _).trans ?_
    rw [htouched, finish_eq_done]
    rfl

end Sys2Proof.Machine

namespace Sys2Proof.Laws

open Sys2Proof.Machine Sys2Proof.Spec

/-! The model's own `debugBreakpoint` holds the name of O45's theorem in the machine's namespace. -/

/-- Settles O45: both forms are the one debug breakpoint. -/
theorem debugBreakpoint : Obligations.DebugBreakpoint := by
  intro code code6 s
  refine ⟨fun hdebug => ?_, fun hdebug => ?_⟩
  · have hexec := debugBreakpoint_of_not_debugMode hdebug
    refine ⟨s.takeDebug .breakpoint false false, hexec, hexec, takeDebug_eq .breakpoint false false s, fun n hn => ?_⟩
    rw [State.takeDebug_debug, restart_eq, getLsbD_debugAfter _ _ _ _ _ hn]
    grind
  · have hexec := debugBreakpoint_of_debugMode hdebug
    exact ⟨hexec, hexec⟩

end Sys2Proof.Laws

/-! Arithmetic of the 16-bit ISA (46_alu16.md R352 to R373): the words that its own forms compute, and the statements about the register
forms (O33) and about the immediate forms, unextended and extended (O34). -/

namespace Sys2Proof.Machine

open Sys2Proof.Spec

/-! ### Words as numbers -/

theorem zero_sub_eq_ofInt (b : Word) : 0 - b = BitVec.ofInt 32 (-b.toInt) := by
  rw [BitVec.ofInt_neg, BitVec.ofInt_toInt]
  exact BitVec.zero_sub b

theorem not_eq_xor (b : Word) : ~~~b = b ^^^ 0xFFFFFFFF#32 := BitVec.xor_allOnes.symm

section immediates

variable {n : Nat} (v : BitVec n)

theorem toNat_zext (hn : n ≤ 32) : (zext v).toNat = v.toNat := BitVec.toNat_setWidth_of_le hn

/-- Zero extension makes a number that is not negative. -/
theorem toInt_zext (hn : n < 32) : (zext v).toInt = v.toNat := by
  have hv : v.toNat < 2 ^ (32 - 1) := v.isLt.trans_le (Nat.pow_le_pow_right (by decide) (by omega))
  rw [← toNat_zext v hn.le]
  exact BitVec.toInt_eq_toNat_of_lt (by rw [toNat_zext v hn.le]; omega)

/-- The immediate of ADDIU sp, scaled by 8 (R357). -/
theorem add_sext8_eq_ofInt (a : Word) : a + sext (v ++ 0#3) = BitVec.ofInt 32 (a.toInt + 8 * v.toInt) := by
  have hscaled : (v ++ 0#3).toInt = 8 * v.toInt := BitVec.toInt_append_zero
  rw [add_sext_eq_ofInt, hscaled]

end immediates

/-! ### Extended forms -/

/-- Outside a delay slot an extended instruction that only writes a register, in the words of the statements. -/
theorem exec_of_extended {i : Instr} {s : State} {len : Word} {rd : Reg} {v w : Word} (hslot : s.slot = none)
    (hexec : exec i s = extended s (writeReg len rd v s)) (hv : v = w) : exec i s = .next (done len (put s rd w)) :=
  exec_of_writeReg (hexec.trans (outsideSlot_none hslot)) hv

/-! ### The statements -/

/-- Settles O33: each form only writes its destination, t8 for the compares, and the word it computes is the one of the statement. -/
theorem registerArithmetic16 : Obligations.RegisterArithmetic16 := by
  intro rx ry rz r32 s a b
  exact ⟨exec_of_writeReg rfl (BitVec.add_def a b),
    exec_of_writeReg rfl (sub_eq_ofInt a b),
    exec_of_writeReg rfl (zero_sub_eq_ofInt b),
    exec_of_writeReg rfl (flag_lessSigned a b),
    exec_of_writeReg rfl (flag_lessUnsigned a b),
    exec_of_writeReg rfl rfl,
    exec_of_writeReg rfl rfl,
    exec_of_writeReg rfl rfl,
    exec_of_writeReg rfl rfl,
    exec_of_writeReg rfl (not_eq_xor b),
    exec_of_writeReg rfl rfl,
    exec_of_writeReg rfl rfl⟩

/-- Settles O34: each form only writes its destination, the extended ones behind the guard of the delay slot, and the word it computes
from the scaled or extended immediate is the one of the statement. -/
theorem immediateArithmetic16 : Obligations.ImmediateArithmetic16 := by
  intro rx ry i4 i8 i15 i16 s a sp
  have hbase := maskedBasePc_eq s
  have hslti : flag (lessSigned a (zext i8)) = truth (a.toInt < i8.toNat) := by
    rw [flag_lessSigned, toInt_zext i8 (by decide)]
  have hsltiu : flag (lessUnsigned a (zext i8)) = truth (a.toNat < i8.toNat) := by
    rw [flag_lessUnsigned, toNat_zext i8 (by decide)]
  have hsltiE : flag (lessSigned a (sext i16)) = truth (a.toInt < i16.toInt) := by
    rw [flag_lessSigned, toInt_sext i16 (by decide)]
  refine ⟨exec_of_writeReg rfl (add_sext_eq_ofInt a i4),
    exec_of_writeReg rfl (add_sext_eq_ofInt a i8),
    exec_of_writeReg rfl (congrArg₂ (· + ·) hbase (zext4_eq i8)),
    exec_of_writeReg rfl (congrArg (sp + ·) (zext4_eq i8)),
    exec_of_writeReg rfl (add_sext8_eq_ofInt i8 sp),
    exec_of_writeReg rfl hslti,
    exec_of_writeReg rfl hsltiu,
    exec_of_writeReg rfl (congrArg (a ^^^ ·) (zext_eq_ofNat i8)),
    exec_of_writeReg rfl (zext_eq_ofNat i8),
    fun hslot => ?extended⟩
  case extended =>
    exact ⟨exec_of_extended hslot rfl (add_sext_eq_ofInt a i15),
      exec_of_extended hslot rfl (add_sext_eq_ofInt a i16),
      exec_of_extended hslot rfl (congrArg₂ (· + ·) hbase (sext_eq_ofInt i16)),
      exec_of_extended hslot rfl (add_sext_eq_ofInt sp i16),
      exec_of_extended hslot rfl (add_sext_eq_ofInt sp i16),
      exec_of_extended hslot rfl hsltiE,
      exec_of_extended hslot rfl (flag_lessUnsigned a (sext i16)),
      exec_of_extended hslot rfl (congrArg (a ^^^ ·) (zext_eq_ofNat i16)),
      exec_of_extended hslot rfl (zext_eq_ofNat i16)⟩

end Sys2Proof.Machine

/-! Shifts of the 16-bit ISA (47_shift_muldiv16.md R380 to R386): the amount that an unextended form names, and the statement about the
unextended, variable and extended shifts (O35). -/

namespace Sys2Proof.Machine

open Sys2Proof.Spec

/-- The amount of an unextended shift by its number (R380). -/
theorem shiftAmount16_eq (sa : BitVec 3) : shiftAmount16 sa = if sa.toNat = 0 then 8 else sa.toNat :=
  if_congr BitVec.toNat_eq rfl rfl

/-- Settles O35: each shift only writes its destination, rx or for a variable amount ry, the extended ones behind the guard of the delay
slot, and shifting is multiplication or division by the power of two. -/
theorem shifts16 : Obligations.Shifts16 := by
  intro rx ry sa sa5 s v n m
  have hshort : shiftAmount16 sa = n := shiftAmount16_eq sa
  have hvariable : shiftAmount (s.reg (xlat rx)) = m := shiftAmount_eq_mod _
  refine ⟨exec_of_writeReg rfl (hshort ▸ shiftLeft_eq_ofNat v _),
    exec_of_writeReg rfl (hshort ▸ ushiftRight_eq_ofNat v _),
    exec_of_writeReg rfl (hshort ▸ sshiftRight_eq_ofInt v _),
    exec_of_writeReg rfl (hvariable ▸ shiftLeft_eq_ofNat v _),
    exec_of_writeReg rfl (hvariable ▸ ushiftRight_eq_ofNat v _),
    exec_of_writeReg rfl (hvariable ▸ sshiftRight_eq_ofInt v _),
    fun hslot => ?extended⟩
  case extended =>
    exact ⟨exec_of_extended hslot rfl (shiftLeft_eq_ofNat v _),
      exec_of_extended hslot rfl (ushiftRight_eq_ofNat v _),
      exec_of_extended hslot rfl (sshiftRight_eq_ofInt v _)⟩

end Sys2Proof.Machine

/-! The entry of a general exception, alone and together with a debug exception (60_exceptions.md R442 to R448, R453, R463, R475, R479,
R492): Status and Cause after it for every exception, NMI and the interrupts among them, and the statements about the entry (O49), the
codes and vectors (O50) and the coincident entry (O54). -/

namespace Sys2Proof.Machine

open Sys2Proof.Spec

/-! ### Status -/

section status

variable (e : Exn) (status : Word)

/-- Outside NmI and CMask every entry leaves what the push leaves. -/
theorem Exn.getLsbD_statusAfter {n : Nat} (hnmi : n ≠ 20) (hmask : ¬ (13 ≤ n ∧ n < 16)) :
    (e.statusAfter status).getLsbD n = (pushStatus status).getLsbD n := by
  cases e with
  | nmi =>
    have hflag : (0x00100000 : Word).getLsbD n = false := by
      rw [show (0x00100000 : Word) = BitVec.twoPow 32 20 from rfl, BitVec.getLsbD_twoPow]
      simp [Ne.symm hnmi]
    rw [Exn.statusAfter, BitVec.getLsbD_or, hflag, Bool.or_false]
  | intSw i => exact getLsbD_setCmask_of_outside hmask
  | intHw | adel | ades | ibe | dbe | sys | bp | ri | cpu | ov => rfl

/-- NmI is set by an NMI and left by every other exception (R463). -/
theorem Exn.getLsbD_statusAfter_nmi : (e.statusAfter status).getLsbD 20 = (status.getLsbD 20 || e == .nmi) := by
  have hpush : (pushStatus status).getLsbD 20 = status.getLsbD 20 := statusPushed_pushStatus status 20 (by decide)
  cases e with
  | nmi => simp [Exn.statusAfter]
  | intSw i => exact (getLsbD_setCmask_of_outside (by decide)).trans (hpush.trans (Bool.or_false _).symm)
  | intHw | adel | ades | ibe | dbe | sys | bp | ri | cpu | ov => exact hpush.trans (Bool.or_false _).symm

theorem extractLsb'_cmask_pushStatus : (pushStatus status).extractLsb' 13 3 = status.extractLsb' 13 3 := by
  refine BitVec.eq_of_getLsbD_eq fun i hi => ?_
  have hpush := statusPushed_pushStatus status (13 + i) (by omega)
  rw [BitVec.getLsbD_extractLsb', BitVec.getLsbD_extractLsb', hpush]
  grind

/-- The level of a software interrupt, as a number (R475). -/
theorem toNat_swiLevel : ∀ i : BitVec 2, (swiLevel i).toNat = levelOf i := by decide

end status

/-- CMask is raised by a software interrupt to its level and left by every other exception (R479). -/
theorem Exn.toNat_cmask_statusAfter (e : Exn) (s : State) :
    ((e.statusAfter s.status).extractLsb' 13 3).toNat = match e with | .intSw i => levelOf i | _ => maskLevel s := by
  have hpush := congrArg BitVec.toNat (extractLsb'_cmask_pushStatus s.status)
  cases e with
  | nmi =>
    rw [Exn.statusAfter, BitVec.extractLsb'_or]
    exact (congrArg BitVec.toNat BitVec.or_zero).trans hpush
  | intSw i => exact (congrArg BitVec.toNat (cmask_setCmask _ _)).trans (toNat_swiLevel i)
  | intHw | adel | ades | ibe | dbe | sys | bp | ri | cpu | ov => exact hpush

/-! ### Cause and Config -/

/-- Cause after the entry of any exception, by its fields: CE is the coprocessor's number and ExcCode the code, where the exception has
one (R446). -/
theorem Exn.exists_causeAfter_eq (e : Exn) (bd : Bool) (s : State) :
    ∃ ce code, (∀ z, e = .cpu z → ce = z) ∧ (∀ c, e.code = some c → code = c) ∧
      e.causeAfter bd s = causeFields (BitVec.ofBool bd) ce (s.cause.extractLsb' 8 4) code := by
  cases hcode : e.code with
  | none =>
    refine ⟨_, _, ?_, nofun, by simp only [Exn.causeAfter, hcode]; rfl⟩
    rintro z rfl
    cases hcode
  | some code =>
    obtain ⟨ce, hce, heq⟩ := Exn.causeAfter_eq bd s hcode
    exact ⟨ce, code, hce, fun _ => Option.some.inj, heq⟩

theorem getLsbD_31_eq_ofBool {w : Word} {b : Bool} (h : w.extractLsb' 31 1 = BitVec.ofBool b) : w.getLsbD 31 = b := by
  rw [← bit_eq_getLsbD, bit, h]
  cases b <;> rfl

theorem getLsbD_wake (config : Word) {n : Nat} (hn : n < 32) :
    (wake config).getLsbD n = (config.getLsbD n && !(n = 8 || n = 9)) := by
  have hkept : ∀ n < 32, (0xFFFFFCFF : Word).getLsbD n = !(decide (n = 8) || decide (n = 9)) := by decide
  rw [wake, BitVec.getLsbD_and, hkept n hn]

/-- An NMI and a hardware interrupt end Halt and Doze (R448). -/
theorem Exn.getLsbD_configAfter (e : Exn) (config : Word) {n : Nat} (hn : n < 32) :
    (e.configAfter config).getLsbD n = (config.getLsbD n && !((n = 8 || n = 9) && (e == .nmi || e == .intHw))) := by
  cases e with
  | nmi | intHw => simp [Exn.configAfter, getLsbD_wake config hn]
  | intSw | adel | ades | ibe | dbe | sys | bp | ri | cpu | ov => simp [Exn.configAfter]

/-! ### The whole entry -/

/-- What taking a general exception writes (R448). -/
theorem take_eq (e : Exn) (s : State) : s.take e =
    { s with pc := e.vector (s.status.getLsbD 22), badVAddr := (s.take e).badVAddr, epc := savedPc s, status := (s.take e).status,
             cause := (s.take e).cause, config := (s.take e).config, nmiPending := s.nmiPending && e != .nmi, slot := none,
             ssSkip := false, prev := .entry, storeWindow := [] } := by
  simp only [State.take, State.takeWith, State.generalRegs, State.enterAt, restart_eq, bit_eq_getLsbD]

/-- Settles O49: the push, NmI and CMask of Status, the fields of Cause, and the two bits of Config, each for every exception. -/
theorem generalExceptionEntry : Obligations.GeneralExceptionEntry := by
  intro e s t
  have hcause : t.cause = e.causeAfter s.slot.isSome s := by rw [State.take_cause, restart_eq]
  obtain ⟨ce, code, hce, hcode, heq⟩ := e.exists_causeAfter_eq s.slot.isSome s
  obtain ⟨hbd, hunit, hsw, hexc⟩ := extractLsb'_causeFields (BitVec.ofBool s.slot.isSome) ce (s.cause.extractLsb' 8 4) code
  rw [← heq, ← hcause] at hbd hunit hsw hexc
  refine ⟨take_eq e s, ?badVAddr, fun c hc => hexc.trans (hcode c hc), fun z hz => hunit.trans (hce z hz), hsw, ?reserved,
    getLsbD_31_eq_ofBool hbd, fun n hn hnmi hmask => ?status, e.getLsbD_statusAfter_nmi s.status, e.toNat_cmask_statusAfter s,
    fun n hn => e.getLsbD_configAfter s.config hn⟩
  case badVAddr => cases e <;> rfl
  case reserved => rw [hcause]; exact e.reserved_causeAfter _ s
  case status => exact (e.getLsbD_statusAfter s.status hnmi hmask).trans (statusPushed_pushStatus s.status n hn)

/-! ### Codes and vectors -/

theorem Exn.toNat_vector_intSw : ∀ (bev : Bool) (i : BitVec 2),
    ((Exn.intSw i).vector bev).toNat = (if bev then 0xBFC00210 else 0x80000110) + 16 * i.toNat := by decide

/-- Settles O50: the two tables read off, the vectors of the software interrupts by their sixteen bytes each. -/
theorem codesAndVectors : Obligations.CodesAndVectors := by
  intro bev
  refine ⟨⟨rfl, rfl, rfl, rfl, rfl, rfl, rfl, rfl⟩, fun i va z => ⟨rfl, rfl, rfl, rfl⟩, rfl, rfl, Exn.toNat_vector_intSw bev,
    ?plain, fun va z => ?withOperand⟩
  case plain =>
    simp only [List.forall_mem_cons]
    exact ⟨rfl, rfl, rfl, rfl, rfl, rfl, nofun⟩
  case withOperand =>
    simp only [List.forall_mem_cons]
    exact ⟨rfl, rfl, rfl, nofun⟩

/-! ### Together with a debug exception -/

/-- What the two exceptions of a coincident pair write: the general one's registers, but for its jump, and the debug one's (R492). -/
theorem takeCoincident_eq (k : DebugKind) (e : Exn) (s : State) : s.takeCoincident k e =
    { s.take e with pc := 0xBFC00200, depc := savedPc s, debug := (s.takeCoincident k e).debug } := by
  have hdepc : (s.generalRegs e s.restart.1 s.restart.2).restart.1 = savedPc s := congrArg Prod.fst (restart_eq s)
  rw [← hdepc]
  rfl

/-- Debug after a coincident pair, bit by bit (R492). -/
theorem getLsbD_takeCoincident_debug (k : DebugKind) (e : Exn) (s : State) {n : Nat} (hn : n < 32) :
    BitVec.getLsbD (s.takeCoincident k e).debug n = if n = 31 then s.slot.isSome else if n = 30 then true
      else if n = 14 then e == .nmi else if n = 12 then e != .nmi else if n = 10 ∨ n = 8 then BitVec.getLsbD s.debug n
      else if n = 1 then k == .breakpoint else if n = 0 then k == .singleStep else false := by
  have hdbd : s.restart.2 = s.slot.isSome := congrArg Prod.snd (restart_eq s)
  rw [← hdbd]
  exact getLsbD_debugAfter k _ _ _ s.debug hn

/-- Settles O54: the entry of the debug exception reads the slot and the address that the general one saved too. -/
theorem coincidentEntry : Obligations.CoincidentEntry := by
  intro k e s t
  have hepc : (s.take e).epc = savedPc s := by rw [State.take_epc, restart_eq]
  refine ⟨takeCoincident_eq k e s, hepc, fun n hn => ?_⟩
  rw [getLsbD_takeCoincident_debug k e s hn]
  grind

end Sys2Proof.Machine

/-! User code to which CP0 is closed (60_exceptions.md R509 to R511, 20_memory.md R90, R92): what confines a step of it, that each shared
operation, each instruction and each boundary does, and the statement about it (O11). -/

namespace Sys2Proof.Machine

open Sys2Proof.Spec

/-! ### Confinement -/

/-- The CP0 registers that the statement names. -/
def State.cp0 (s : State) : Word × Word × Word × Word × Word × Word × Word :=
  (s.status, s.cause, s.epc, s.badVAddr, s.config, s.debug, s.depc)

/-- User code with Status.CU[0] = 0, not in the delay slot of a DERET (R509). -/
structure State.UserCode (s : State) : Prop where
  user : s.userMode = true
  closed : ¬ Usable s 0#2
  staysUser : s.leavesDebug = false

/-- The core runs in kernel mode at an exception vector. -/
def State.AtVector (t : State) : Prop := t.userMode = false ∧ t.pc ∈ vectors

/-- No byte outside the image of kuseg differs (20_memory.md R90, R92). -/
def SameKernelMemory (s t : State) : Prop := ∀ a, a < 0x40000000 ∨ 0xC0000000 ≤ a → memRead t.mem a = memRead s.mem a

/-- What the statement says of a step from `s` to `t`. -/
def Confined (s t : State) : Prop := (t.AtVector ∨ t.cp0 = s.cp0) ∧ SameKernelMemory s t

/-- If the result goes on, it goes on confined. -/
def Confines (s : State) (r : Result) : Prop := ∀ t, r = .next t → Confined s t

section results

variable {s t : State}

theorem sameKernelMemory_of_mem_eq (h : t.mem = s.mem) : SameKernelMemory s t := fun _ _ => by rw [h]

theorem confined_of_same (hcp0 : t.cp0 = s.cp0) (hmem : SameKernelMemory s t) : Confined s t := ⟨.inr hcp0, hmem⟩

theorem confined_of_atVector (hvector : t.AtVector) (hmem : t.mem = s.mem) : Confined s t :=
  ⟨.inl hvector, sameKernelMemory_of_mem_eq hmem⟩

theorem confined_of_start {u : State} (hcp0 : u.cp0 = s.cp0) (hmem : u.mem = s.mem) (h : Confined u t) : Confined s t := by
  obtain ⟨hentry, hkept⟩ := h
  exact ⟨hentry.imp_right (·.trans hcp0), fun a ha => (hkept a ha).trans (by rw [hmem])⟩

theorem confines_next (h : Confined s t) : Confines s (.next t) := by
  rintro _ ⟨⟩
  exact h

theorem confines_fault (f : Fault) : Confines s (.fault f) := by
  rintro _ ⟨⟩

theorem confines_refused (r : Refusal) : Confines s (.refused r) := by
  rintro _ ⟨⟩

end results

theorem State.UserCode.debugMode {s : State} (h : s.UserCode) : s.debugMode = false := by
  have huser := h.user
  rw [State.userMode, Bool.and_eq_true, Bool.not_eq_true'] at huser
  exact huser.1

/-! ### The entry of an exception -/

theorem Exn.vector_mem_vectors (e : Exn) (bev : Bool) : e.vector bev ∈ vectors := by
  have hplain : ∀ bev : Bool, (if bev then 0xBFC00180 else 0x80000080) ∈ vectors := by decide
  have hsoftware : ∀ (bev : Bool) (i : BitVec 2), (Exn.intSw i).vector bev ∈ vectors := by decide
  have hhardware : ∀ bev : Bool, Exn.intHw.vector bev ∈ vectors := by decide
  cases e with
  | nmi => exact List.mem_cons_self
  | intHw => exact hhardware bev
  | intSw i => exact hsoftware bev i
  | adel | ades | ibe | dbe | sys | bp | ri | cpu | ov => exact hplain bev

section entry

variable (s : State)

/-- The push leaves KUc = 0: kernel mode (R442). -/
theorem State.atVector_takeWith (e : Exn) (epc : Word) (bd : Bool) : (s.takeWith e epc bd).AtVector := by
  have hku : bit (e.statusAfter s.status) 1 = false := by
    rw [bit_eq_getLsbD, e.getLsbD_statusAfter s.status (by decide) (by decide)]
    exact statusPushed_pushStatus s.status 1 (by decide)
  have huser : (s.takeWith e epc bd).userMode = false := by
    rw [State.userMode, State.takeWith_status, hku, Bool.and_false]
  exact ⟨huser, e.vector_mem_vectors _⟩

/-- Debug mode is kernel mode (10_state.md R75). -/
theorem State.atVector_takeDebug (k : DebugKind) (nis oes : Bool) : (s.takeDebug k nis oes).AtVector := by
  have hdebug : (s.takeDebug k nis oes).debugMode = true := by
    rw [State.debugMode, State.takeDebug_debug, bit_eq_getLsbD, getLsbD_debugAfter _ _ _ _ _ (by decide)]
    rfl
  have huser : (s.takeDebug k nis oes).userMode = false := by rw [State.userMode, hdebug]; rfl
  exact ⟨huser, .tail _ List.mem_cons_self⟩

theorem confined_takeWith (e : Exn) (epc : Word) (bd : Bool) : Confined s (s.takeWith e epc bd) :=
  confined_of_atVector (s.atVector_takeWith e epc bd) rfl

theorem confined_take (e : Exn) : Confined s (s.take e) := confined_takeWith s e _ _

theorem confined_takeDebug (k : DebugKind) (nis oes : Bool) : Confined s (s.takeDebug k nis oes) :=
  confined_of_atVector (s.atVector_takeDebug k nis oes) rfl

theorem confined_takeCoincident (k : DebugKind) (e : Exn) : Confined s (s.takeCoincident k e) :=
  confined_of_atVector (State.atVector_takeDebug _ k _ _) rfl

theorem confined_takeDataBusError (d : DataBusError) : Confined s (takeDataBusError d s) := by
  unfold takeDataBusError
  split
  · exact confined_take { s with dbe := none } .dbe
  · exact confined_takeWith { s with dbe := none } .dbe _ _

end entry

/-! ### Guards -/

section guards

variable {s : State} {body : Result}

theorem confines_raise (e : Exn) : Confines s (raise e s) := by
  intro t ht
  obtain ⟨-, rfl⟩ := raise_next ht
  exact confined_take s e

theorem confines_outsideSlot {f : Fault} (hbody : Confines s body) : Confines s (outsideSlot f s body) :=
  fun t ht => hbody t (outsideSlot_next ht).2

theorem confines_extended (hbody : Confines s body) : Confines s (extended s body) := confines_outsideSlot hbody

theorem confines_ifUsable {z : BitVec 2} (hbody : Confines s body) : Confines s (ifUsable z s body) := by
  intro t ht
  obtain ⟨-, hnext⟩ | ⟨-, -, rfl⟩ := ifUsable_next ht
  · exact hbody t hnext
  · exact confined_take s (.cpu z)

/-- Behind the check of CP0 user code reaches nothing (R509). -/
theorem confines_ifUsable_zero (h : s.UserCode) : Confines s (ifUsable 0#2 s body) := by
  rw [ifUsable_of_not_usable h.closed]
  exact confines_raise (.cpu 0#2)

theorem confines_ifCop {z : BitVec 2} (hbody : Confines s body) : Confines s (ifCop z s body) := by
  intro t ht
  obtain ⟨-, -, hnext⟩ | ⟨-, -, rfl⟩ := ifCop_next ht
  · exact hbody t hnext
  · exact confined_take s (.cpu z)

end guards

/-! ### The end of an instruction -/

section ends

variable {s u : State} {len : Word}

/-- An instruction completes from a state `u` whose CP0 registers and slot are those of user code. -/
theorem confined_finishAs {p : Prev} (h : s.UserCode) (hslot : u.slot = s.slot) (hcp0 : u.cp0 = s.cp0)
    (hmem : SameKernelMemory s u) : Confined s (u.finishAs p len) := by
  have hstays : u.leavesDebug = false := by
    rw [State.leavesDebug, hslot]
    exact h.staysUser
  have hdebug : (u.finishAs p len).debug = u.debug := by rw [State.finishAs_debug, hstays]; rfl
  refine confined_of_same ?_ hmem
  rw [← hcp0, State.cp0, hdebug]
  rfl

/-- An instruction that changes no CP0 register and no memory. -/
theorem confines_finish (h : s.UserCode) (hslot : u.slot = s.slot) (hcp0 : u.cp0 = s.cp0) (hmem : u.mem = s.mem) :
    Confines s (.next (u.finish len)) :=
  confines_next (confined_finishAs h hslot hcp0 (sameKernelMemory_of_mem_eq hmem) (p := .other))

theorem confines_startTransfer {target : Word} {nullify leavesDebug : Bool} (hcp0 : u.cp0 = s.cp0) (hmem : u.mem = s.mem) :
    Confines s (.next (u.startTransfer len target nullify leavesDebug)) :=
  confines_next (confined_of_same hcp0 (sameKernelMemory_of_mem_eq hmem))

end ends

/-! ### Loads and stores -/

section accesses

variable {s : State} {i : Instr} {f : AccessForm}

theorem div_four_of_mem_bytesFrom {va a : Word} {n : Nat} (hin : a.toNat % 4 + n ≤ 4) (h : va ∈ bytesFrom a n) :
    va.toNat / 4 = a.toNat / 4 := by
  obtain ⟨i, hi, rfl⟩ := mem_bytesFrom h
  rw [toNat_add_ofNat (by omega)]
  omega

theorem div_four_of_mem_leftBytes {va ea : Word} {big : Bool} (h : va ∈ leftBytes big ea) :
    va.toNat / 4 = ea.toNat / 4 := by
  have hword := toNat_alignedWord ea
  cases big with
  | true => exact div_four_of_mem_bytesFrom (by omega) h
  | false =>
    have heq := div_four_of_mem_bytesFrom (a := alignedWord ea) (by omega) h
    omega

theorem div_four_of_partialForm (h : partialForm s i = some f) : ∀ va ∈ f.bytes, va.toNat / 4 = f.ea.toNat / 4 := by
  unfold partialForm at h
  simp only [rightBytes_eq] at h
  split at h <;> cases h <;> exact fun _ => div_four_of_mem_leftBytes

/-- The bytes of every aligned access stand inside the aligned word of its effective address. -/
theorem div_four_of_accessForm (h : accessForm s i = some f) (halign : f.ea.toNat % f.align = 0) :
    ∀ va ∈ f.bytes, va.toNat / 4 = f.ea.toNat / 4 := by
  rw [accessForm, Option.or_eq_some_iff, Option.or_eq_some_iff, Option.map_eq_some_iff, Option.map_eq_some_iff] at h
  obtain hpart | ⟨-, ⟨l, hload, rfl⟩ | ⟨-, st, hstore, rfl⟩⟩ := h
  · exact div_four_of_partialForm hpart
  · exact fun _ => div_four_of_mem_bytesFrom (mod_add_le_of_aligned (width_of_loadForm hload) halign)
  · exact fun _ => div_four_of_mem_bytesFrom (mod_add_le_of_aligned (width_of_storeForm hstore) halign)

/-- User mode reaches no byte outside kuseg (20_memory.md R92). -/
theorem kuseg_of_accessForm (huser : s.userMode = true) (h : accessForm s i = some f) (hperm : Permitted s f.ea f.align) :
    ∀ va ∈ f.bytes, va.toNat < 2 ^ 31 := by
  intro va hva
  obtain ⟨halign, hkuseg⟩ := hperm
  have hword := div_four_of_accessForm h halign va hva
  have hea := hkuseg huser
  omega

theorem sameKernelMemory_storeCells {cells : List (Word × Byte)} (hkuseg : ∀ va ∈ cells.map (·.1), va.toNat < 2 ^ 31) :
    SameKernelMemory s (s.storeCells cells) := by
  intro a ha
  refine memRead_memWriteAll_ne fun c hc heq => ?_
  obtain ⟨d, hd, rfl⟩ := List.mem_map.mp (mem_memoryCells.mp hc).1
  have hva : d.1.toNat < 0x80000000 := hkuseg d.1 (List.mem_map_of_mem hd)
  have htranslate : (translate d.1).toNat = d.1.toNat + 0x40000000 := (translation d.1).1 hva
  simp only [htranslate] at heq
  omega

theorem sameKernelMemory_spoilCells {cells : List (Word × Byte)} (hkuseg : ∀ va ∈ cells.map (·.1), va.toNat < 2 ^ 31) :
    SameKernelMemory s (s.spoilCells cells) :=
  sameKernelMemory_storeCells (by rw [List.map_map]; exact hkuseg)

/-- A bus error of data writes no CP0 register outside debug mode (60_exceptions.md R466(b)). -/
theorem cp0_dataBusError (hdebug : s.debugMode = false) (d : DataBusError) : (s.dataBusError d).cp0 = s.cp0 := by
  have heq : (s.dataBusError d).debug = s.debug := by rw [State.dataBusError_debug, hdebug]; rfl
  rw [State.cp0, heq]
  rfl

theorem confined_dataBusError {u : State} {len : Word} {d : DataBusError} (h : s.UserCode) (hslot : u.slot = s.slot)
    (hcp0 : u.cp0 = s.cp0) (hdebug : u.debugMode = false) (hmem : SameKernelMemory s u) :
    Confined s ((u.dataBusError d).finishAs .access len) :=
  confined_finishAs (u := u.dataBusError d) h hslot ((cp0_dataBusError hdebug d).trans hcp0) hmem

theorem confines_load {len : Word} {dest : Reg} {ea : Word} {align : Nat} {vas : List Word} {value : Word} (h : s.UserCode) :
    Confines s (load len dest ea align vas value s) := by
  intro t ht
  obtain ⟨-, rfl⟩ | ⟨-, rfl⟩ | ⟨-, -, rfl⟩ := load_next ht
  · exact confined_finishAs h rfl rfl (sameKernelMemory_of_mem_eq rfl)
  · exact confined_dataBusError h rfl rfl h.debugMode (sameKernelMemory_of_mem_eq rfl)
  · exact confined_take s (.adel ea)

theorem permitted_of_access_ne {k : AccessKind} {ea : Word} {align : Nat} {vas : List Word} {g : Grant}
    (h : s.access k ea align vas = g) (hne : g ≠ .addressError) : Permitted s ea align := by
  by_contra hperm
  exact hne (h.symm.trans (access_addressError hperm))

theorem confines_store {len : Word} {ea : Word} {align : Nat} {cells : List (Word × Byte)} (h : s.UserCode)
    (hkuseg : Permitted s ea align → ∀ va ∈ cells.map (·.1), va.toNat < 2 ^ 31) :
    Confines s (store len ea align cells s) := by
  intro t ht
  obtain ⟨hgrant, rfl⟩ | ⟨hbus, ht⟩ | ⟨-, -, rfl⟩ := store_next ht
  · have hmem := sameKernelMemory_storeCells (s := s) (hkuseg (permitted_of_access_ne hgrant (by decide)))
    exact confined_finishAs h rfl rfl hmem
  · have hmem := sameKernelMemory_spoilCells (s := s) (hkuseg (permitted_of_access_ne hbus (by decide)))
    obtain rfl | rfl := ht
    · exact confined_finishAs h rfl rfl hmem
    · exact confined_dataBusError h rfl rfl h.debugMode hmem
  · exact confined_take s (.ades ea)

/-- Every load and store of both ISAs; an extended one in a delay slot stops. -/
theorem confines_access (h : s.UserCode) (hform : accessForm s i = some f) : Confines s (exec i s) := by
  by_cases hslot : twoHalves i = true → s.slot = none
  · have hkuseg := kuseg_of_accessForm h.user hform
    cases runsAccess_of_accessForm hslot hform with
    | load d ea align bytes len v hexec => exact hexec ▸ confines_load h
    | store ea align cells len hexec => exact hexec ▸ confines_store h hkuseg
  · obtain ⟨htwo, hsome⟩ := Classical.not_imp.mp hslot
    obtain ⟨k, hk⟩ := Option.ne_none_iff_exists'.mp hsome
    rw [exec_of_twoHalves hk htwo]
    exact confines_fault _

end accesses

/-! ### The other shapes of instructions -/

section shapes

variable {s : State} {len : Word}

theorem confines_writeReg {rd : Reg} {v : Word} (h : s.UserCode) : Confines s (writeReg len rd v s) :=
  confines_finish h rfl rfl rfl

theorem confines_writeRegOrOverflow {overflow : Bool} {rd : Reg} {v : Word} (h : s.UserCode) :
    Confines s (writeRegOrOverflow overflow rd v s) := by
  cases overflow with
  | true => exact confines_raise .ov
  | false => exact confines_writeReg h

theorem confines_divSigned {a b : Word} (h : s.UserCode) : Confines s (.next ((s.divSigned a b).finish len)) := by
  rw [divSigned_eq]
  exact confines_finish h rfl rfl rfl

theorem confines_divUnsigned {a b : Word} (h : s.UserCode) : Confines s (.next ((s.divUnsigned a b).finish len)) := by
  rw [divUnsigned_eq]
  exact confines_finish h rfl rfl rfl

theorem confines_jump {target : Word} : Confines s (jump len target s) :=
  confines_outsideSlot (confines_startTransfer rfl rfl)

theorem confines_jumpLink {target : Word} {rd : Reg} {link : Word} : Confines s (jumpLink len target rd link s) :=
  confines_outsideSlot (confines_startTransfer rfl rfl)

theorem confines_execJalr {rs rd : Reg} : Confines s (execJalr rs rd s) := by
  unfold execJalr
  split
  · exact confines_fault _
  · exact confines_jumpLink

theorem confines_branch {taken : Bool} {offset : BitVec 16} : Confines s (branch taken offset s) :=
  confines_outsideSlot (confines_startTransfer rfl rfl)

theorem confines_branchLikely {taken : Bool} {offset : BitVec 16} : Confines s (branchLikely taken offset s) :=
  confines_outsideSlot (confines_startTransfer rfl rfl)

theorem confines_branchLink {rs : Reg} {likely taken : Bool} {offset : BitVec 16} :
    Confines s (branchLink rs likely taken offset s) := by
  unfold branchLink
  split
  · exact confines_fault _
  · exact confines_outsideSlot (confines_startTransfer rfl rfl)

theorem confines_branch16 {n : Nat} {taken : Bool} {offset : BitVec n} : Confines s (branch16 len taken offset s) :=
  confines_outsideSlot (confines_next (confined_of_same rfl (sameKernelMemory_of_mem_eq rfl)))

/-- An operation of coprocessor 1 to 3 changes nothing but the unit and its condition line (44_coproc_special32.md R298). -/
theorem confines_copz {z : BitVec 2} (h : s.UserCode) : Confines s (copz z s) := by
  have hfinish (c : Coprocessor) (lines : BitVec 4) :
      Confines s (.next (State.finish 4 { s.setCop z c with cpcond := lines })) := confines_finish h rfl rfl rfl
  exact confines_ifCop (hfinish _ _)

theorem confines_debugBreakpoint : Confines s (debugBreakpoint s) := by
  unfold debugBreakpoint
  split
  · exact confines_fault _
  · exact confines_next (confined_takeDebug s .breakpoint false false)

end shapes

/-! ### Every instruction -/

/-- The instructions by their shape: those of CP0 come to their check, and no other writes a CP0 register. -/
theorem confines_exec (i : Instr) {s : State} (h : s.UserCode) : Confines s (exec i s) := by
  cases i with
  | lb | lbu | lh | lhu | lwl | lwr | lw | lb16 | lbu16 | lh16 | lhu16 | lw16 | lwpc | lwsp | lbE | lbuE | lhE | lhuE | lwE
  | lwpcE | lwspE | sb | sh | swl | swr | sw | sb16 | sh16 | sw16 | swsp | swrasp | sbE | shE | swE | swspE | swraspE =>
    exact confines_access h rfl
  | add | sub | addi => exact confines_writeRegOrOverflow h
  | addu | subu | and | or | xor | nor | slt | sltu | addiu | slti | sltiu | andi | ori | xori | lui | sll | srl | sra
  | sllv | srlv | srav | mfhi | mflo | addiu3 | addiupc | addiu8 | addiusp | adjsp | addu16 | subu16 | neg16 | slt16
  | sltu16 | slti16 | sltiu16 | movr32 | mov32r | cmp16 | cmpi16 | and16 | or16 | xor16 | not16 | li16 | sll16 | srl16
  | sra16 | sllv16 | srlv16 | srav16 | mfhi16 | mflo16 => exact confines_writeReg h
  | addiu3E | addiupcE | addiu8E | addiuspE | adjspE | sltiE | sltiuE | cmpiE | liE | sllE | srlE | sraE =>
    exact confines_extended (confines_writeReg h)
  | div | div16 => exact confines_divSigned h
  | divu | divu16 => exact confines_divUnsigned h
  | mult | multu | madd | maddu | mthi | mtlo | mult16 | multu16 | sync => exact confines_finish h rfl rfl rfl
  | j | jr | jr16 | jrra => exact confines_jump
  | jal | jalx | jalr16 => exact confines_jumpLink
  | jal16 | jalx16 => exact confines_extended confines_jumpLink
  | jalr => exact confines_execJalr
  | beq | bne | blez | bgtz | bltz | bgez => exact confines_branch
  | beql | bnel | blezl | bgtzl | bltzl | bgezl => exact confines_branchLikely
  | bltzal | bgezal | bltzall | bgezall => exact confines_branchLink
  | beqz | bnez | bteqz | btnez | b => exact confines_branch16
  | beqzE | bnezE | bteqzE | btnezE | bE => exact confines_extended confines_branch16
  | mfc1 | mfc2 | mfc3 | mtc1 | mtc2 | mtc3 | cfc1 | cfc2 | cfc3 | ctc1 | ctc2 | ctc3 =>
    exact confines_ifCop (confines_finish h rfl rfl rfl)
  | cop1 | cop2 | cop3 => exact confines_copz h
  | bc1f | bc1t | bc2f | bc2t | bc3f | bc3t => exact confines_ifCop confines_branch
  | bc1fl | bc1tl | bc2fl | bc2tl | bc3fl | bc3tl => exact confines_ifCop confines_branchLikely
  | mfc0 | mtc0 | cfc0 | ctc0 | bc0f | bc0t | bc0fl | bc0tl | rfe | deret | tlbr | tlbwi | tlbwr | tlbp | cache =>
    exact confines_ifUsable_zero h
  | lwcz | swcz | syscall | brk | brk16 => exact confines_raise _
  | extend => exact confines_extended (confines_raise _)
  | sdbbp | sdbbp16 => exact confines_debugBreakpoint

/-! ### The boundary -/

section boundary

variable {s : State}

theorem confines_execDecoded (d : Decoded) (h : s.UserCode) : Confines s (execDecoded d s) := by
  cases d with
  | instr i => exact confines_exec i h
  | reserved => exact confines_raise .ri
  | reservedCop z => exact confines_ifUsable (confines_raise .ri)
  | nonZeroField => exact confines_refused _
  | nonZeroFieldCop z => exact confines_ifUsable (confines_refused _)
  | unlistedCop0 => exact confines_ifUsable (confines_refused _)

/-- A fetch outside debug mode delivers no code that failed (60_exceptions.md R495(a)). -/
theorem fetchBytes_eq_code {a : Word} {n : Nat} {failed found : Fetched} {c : Code} {b : Bool} (hdebug : s.debugMode = false)
    (h : fetchBytes s a n failed found = .code c b) : found = .code c b := by
  unfold fetchBytes at h
  rw [hdebug] at h
  split at h
  · cases h
  · cases h
  · cases h
  · split at h
    · cases h
    · exact h

theorem fetchRest_eq_code {h0 : Half} {a : Word} {c : Code} {failed b : Bool} (hdebug : s.debugMode = false)
    (h : s.fetchRest h0 failed a = .code c b) : b = failed := by
  unfold State.fetchRest at h
  split at h
  · rw [fetchSecond_eq] at h
    cases fetchBytes_eq_code hdebug h
    rfl
  · cases h
    rfl

theorem fetch_eq_code {c : Code} {failed : Bool} (hdebug : s.debugMode = false) (h : s.fetch = .code c failed) :
    failed = false := by
  unfold State.fetch at h
  split at h
  · rw [fetchHalf_eq] at h
    exact fetchRest_eq_code hdebug (fetchBytes_eq_code hdebug h)
  · rw [fetchWord_eq] at h
    cases fetchBytes_eq_code hdebug h
    rfl

theorem confines_runFetched (h : s.UserCode) : Confines s (runFetched s.fetch s) := by
  cases hfetch : s.fetch with
  | addressError va => exact confines_raise (.adel va)
  | reserved => exact confines_refused _
  | busError => exact confines_raise .ibe
  | stale => exact confines_fault _
  | code c failed =>
    obtain rfl := fetch_eq_code h.debugMode hfetch
    have hstart : (s.noteFetch false).age.UserCode := ⟨h.user, h.closed, h.staysUser⟩
    intro t ht
    exact confined_of_start rfl rfl (confines_execDecoded (decodeCode c) hstart t ht)

theorem confines_takeSingleStep : Confines s (takeSingleStep s) := by
  intro t ht
  obtain rfl | ⟨va, rfl⟩ := takeSingleStep_next ht
  · exact confined_takeDebug s _ _ _
  · exact confined_takeCoincident s _ _

theorem confines_dispatchNext (h : s.UserCode) : Confines s (dispatchNext s) := by
  intro t ht
  obtain hrun | ⟨d, -, rfl⟩ | ⟨-, rfl | rfl⟩ | ⟨e, -, rfl | rfl⟩ := dispatchNext_next ht
  · exact confines_runFetched h t hrun
  · exact confined_takeDataBusError s d
  · exact confined_takeCoincident s _ _
  · exact confined_take s _
  · exact confined_takeCoincident s _ _
  · exact confined_take s _

theorem confines_runBoundary (h : s.UserCode) : Confines s (runBoundary s) := by
  intro t ht
  obtain ⟨-, hstep⟩ | ⟨-, hnext⟩ := runBoundary_next ht
  · exact confines_takeSingleStep t hstep
  · exact confines_dispatchNext h t hnext

/-- A stopped core is left out: its release writes Config (60_exceptions.md R506). -/
theorem confines_boundary (h : s.UserCode) (hstopped : s.stopped = false) : Confines s (boundary s) := by
  intro t ht
  obtain ⟨k, -, -, rfl⟩ | ⟨hs, -, -⟩ | ⟨hs, -, -⟩ | ⟨-, hrun⟩ := boundary_next ht
  · exact confined_of_same rfl (sameKernelMemory_of_mem_eq rfl)
  · rw [hstopped] at hs
    cases hs
  · rw [hstopped] at hs
    cases hs
  · exact confines_runBoundary h t hrun

end boundary

/-! ### The statement -/

/-- Without inputs the boundary begins in the state as it is, but for the counter and the saved condition lines. -/
theorem step_of_no_inputs {s : State} (h : s.inputs = []) : step s = boundary s.nextBoundary := by
  have hevents : s.events = [] := by rw [State.events, h]; rfl
  rw [step, State.resetDue, State.sample, hevents]
  rfl

/-- Settles O11: user code enters an exception or changes no CP0 register, and its stores reach kuseg alone. -/
theorem userModeIsConfined : Obligations.UserModeIsConfined := by
  intro s t huser hcu hinputs hstopped hslot hstep
  have hclosed : ¬ Usable s 0#2 := by
    rintro (hset | ⟨-, hkernel⟩)
    · exact Bool.false_ne_true (hcu.symm.trans hset)
    · exact Bool.false_ne_true (hkernel.symm.trans huser)
  have hstays : s.leavesDebug = false := by
    unfold State.leavesDebug
    split
    · next k hk => exact hslot k hk
    · rfl
  have hcode : s.nextBoundary.UserCode := ⟨huser, hclosed, hstays⟩
  rw [step_of_no_inputs hinputs] at hstep
  obtain ⟨hcp0, hmem⟩ := confines_boundary hcode hstopped t hstep
  refine ⟨hcp0.imp id fun hsame => ?_, hmem⟩
  simpa [State.cp0] using hsame

end Sys2Proof.Machine

/-! Jumps and branches of the 16-bit ISA (48_jump_branch16.md R400 to R414): the link values and targets as arithmetic on numbers, and the
statements about the jumps (O30) and about the branches, unextended and extended (O31). -/

namespace Sys2Proof.Machine

open Sys2Proof.Spec

/-! ### Link values -/

theorem and_one_eq (w : Word) : w &&& 1 = BitVec.ofNat 32 (w.toNat % 2) := by
  apply BitVec.eq_of_toNat_eq
  rw [BitVec.toNat_and, BitVec.toNat_ofNat]
  refine (Nat.and_one_is_mod w.toNat).trans ?_
  omega

/-- The program counter is the address of the instruction and the ISA-mode bit (10_state.md R25). -/
theorem instrAddr_add_one {s : State} (h : s.isa16 = true) : s.instrAddr + 1 = s.pc := by
  have hodd : s.pc.toNat % 2 = 1 := by simpa [State.isa16, bit_eq_decide] using h
  have hdisjoint : s.instrAddr &&& 1 = 0 := by rw [and_one_eq, instrAddr_even]; rfl
  calc s.instrAddr + 1 = s.instrAddr ||| 1 := BitVec.add_eq_or_of_and_eq_zero _ _ hdisjoint
    _ = (s.pc &&& 0xFFFFFFFE) ||| (s.pc &&& 1) := by rw [and_one_eq, hodd]; rfl
    _ = s.pc := by rw [← BitVec.and_or_distrib_left]; exact BitVec.and_allOnes

/-- Adding an even length keeps the ISA-mode bit free, so the link value is the program counter plus length and slot (R407). -/
theorem link16_eq {s : State} (h : s.isa16 = true) {len : Word} (hlen : len.toNat % 2 = 0) : s.link16 len = s.pc + len + 2 := by
  have heven := instrAddr_even s
  have hbehind : (s.instrAddr + len + 2).toNat % 2 = 0 := by
    rw [BitVec.toNat_add, BitVec.toNat_add]
    change ((s.instrAddr.toNat + len.toNat) % 2 ^ 32 + 2) % 2 ^ 32 % 2 = 0
    omega
  have hdisjoint : (s.instrAddr + len + 2) &&& 1 = 0 := by rw [and_one_eq, hbehind]; rfl
  rw [State.link16, ← BitVec.add_eq_or_of_and_eq_zero _ _ hdisjoint, ← instrAddr_add_one h]
  ac_rfl

/-- Settles O30: the two shared jumps, JAL and JALX behind the guard of a two-halfword instruction. -/
theorem jumps16 : Obligations.Jumps16 := by
  intro target rx s hslot hisa
  have hregion (isa : Bool) := regionTarget_eq_targetRegion s target isa
  have hlinkPair : s.link16 4 = s.pc + 6 := by rw [link16_eq hisa (by decide), BitVec.add_assoc]; rfl
  have hlinkHalf : s.link16 2 = s.pc + 4 := by rw [link16_eq hisa (by decide), BitVec.add_assoc]; rfl
  have hpair (tgt : Word) : extended s (jumpLink 4 tgt ra (s.link16 4) s) =
      .next (jumped 4 tgt false (put s 31#5 (s.pc + 6))) := by
    rw [extended, outsideSlot_none hslot, jumpLink_of_no_slot hslot, hlinkPair]
  refine ⟨?jal, ?jalx, jump_of_no_slot hslot 2 _, jump_of_no_slot hslot 2 _, ?jalr⟩
  case jal =>
    have hmode : s.regionTarget target s.isa16 = targetRegion s target true := by rw [hisa, hregion]
    exact hmode ▸ hpair _
  case jalx =>
    have hmode : s.regionTarget target (!s.isa16) = targetRegion s target false := by rw [hisa, hregion]; rfl
    exact hmode ▸ hpair _
  case jalr => rw [← hlinkHalf]; exact jumpLink_of_no_slot hslot 2 _ ra _

/-! ### Branches -/

section branches

variable {s : State} {n : Nat}

theorem add_ofNat_eq_ofInt (pc : Word) (len : Nat) : pc + BitVec.ofNat 32 len = BitVec.ofInt 32 (pc.toInt + len) := by
  rw [BitVec.ofInt_add, BitVec.ofInt_toInt, BitVec.ofInt_natCast]

/-- The offset counts halfwords from the address behind the branch, or behind the pair (R408; D18). -/
theorem branchTarget16_eq (s : State) (len : Nat) (offset : BitVec n) :
    s.branchTarget16 (BitVec.ofNat 32 len) offset = BitVec.ofInt 32 (s.pc.toInt + len + 2 * offset.toInt) := by
  have hoffset : (offset ++ 0#1).toInt = 2 * offset.toInt := BitVec.toInt_append_zero
  rw [State.branchTarget16, add_sext_eq_ofInt, hoffset, add_ofNat_eq_ofInt, BitVec.ofInt_add, BitVec.ofInt_toInt, ← BitVec.ofInt_add]

theorem branchTo_eq_branched (hslot : s.slot = none) (target : Word) : s.branchTo target = branched target s := by
  rw [State.branchTo, ← hslot]
  rfl

/-- A branch of the 16-bit ISA in the words of the statements. -/
theorem branches16_of_branch16 {i : Instr} {len : Nat} {taken : Bool} {cond : Prop} {offset : BitVec n}
    (hexec : s.slot = none → exec i s = branch16 (BitVec.ofNat 32 len) taken offset s) (hcond : taken = true ↔ cond) :
    Branches16 i s len cond offset.toInt := by
  intro hslot
  rw [hexec hslot, branch16, outsideSlot_none hslot, branchTo_eq_branched hslot, branchTarget16_eq, add_ofNat_eq_ofInt]
  refine ⟨fun h => ?_, fun h => ?_⟩
  · rw [hcond.mpr h]; rfl
  · rw [Bool.eq_false_iff.mpr (mt hcond.mp h)]; rfl

end branches

/-- Settles O31: each is the shared branch on its condition, the extended ones behind the guard of the delay slot. -/
theorem branches16Bit : Obligations.Branches16Bit := by
  intro rx o8 o11 o16 s v t8
  have half {i : Instr} {n : Nat} {taken : Bool} {cond : Prop} {offset : BitVec n}
      (hexec : exec i s = branch16 2 taken offset s) (hcond : taken = true ↔ cond) :=
    branches16_of_branch16 (len := 2) (fun _ => hexec) hcond
  have pair {i : Instr} {n : Nat} {taken : Bool} {cond : Prop} {offset : BitVec n}
      (hexec : exec i s = extended s (branch16 4 taken offset s)) (hcond : taken = true ↔ cond) :=
    branches16_of_branch16 (len := 4) (fun hslot => hexec.trans (outsideSlot_none hslot)) hcond
  have halways : true = true ↔ True := eq_self_iff_true true
  exact ⟨half rfl beq_iff_eq, half rfl bne_iff_ne, half rfl beq_iff_eq, half rfl bne_iff_ne, half rfl halways,
    pair rfl beq_iff_eq, pair rfl bne_iff_ne, pair rfl beq_iff_eq, pair rfl bne_iff_ne, pair rfl halways⟩

end Sys2Proof.Machine

/-! Data bus errors (60_exceptions.md R466, R495(a)): a load or store of any form that meets one completes all the same, and the statement
about it (O19). -/

namespace Sys2Proof.Machine

open Sys2Proof.Spec

/-! ### Bytes that the address determines -/

section determined

variable {m cells : List Host.Cell} {value : Nat → Byte}

/-- After writes whose values are determined by their addresses, a named byte has its value and every other stays, however often an
address is named. -/
theorem memRead_memWriteAll_determined (h : Memory.wf m = true) (hb : ∀ c ∈ cells, c.1 < 2 ^ 32)
    (hv : ∀ c ∈ cells, c.2 = value c.1) (a : Nat) :
    memRead (memWriteAll m cells) a = if a ∈ cells.map (·.1) then value a else memRead m a := by
  induction cells generalizing m with
  | nil => rfl
  | cons c cells ih =>
    simp only [List.forall_mem_cons] at hb hv
    have htail := ih (wf_memWrite (b := c.2) h hb.1) hb.2 hv.2
    change memRead (memWriteAll (memWrite m c.1 c.2) cells) a = _
    rw [htail, memRead_memWrite h, List.map_cons]
    by_cases hc : a = c.1
    · simp [hc, hv.1]
    · simp [hc]

/-- The fetch window after such writes: the bytes they changed, and what was in it before (20_memory.md R103). -/
theorem remembered_determined {s : State} (h : Memory.wf s.mem = true) (hb : ∀ c ∈ cells, c.1 < 2 ^ 32)
    (hv : ∀ c ∈ cells, c.2 = value c.1) : Remembered s (memWriteAll s.mem cells) (windowAfter s cells) := by
  have hread := memRead_memWriteAll_determined h hb hv
  intro a n
  rw [hread]
  simp only [windowAfter, List.mem_append, List.mem_map, List.mem_filter, bne_iff_ne, Prod.mk.injEq]
  refine or_congr ⟨?_, ?_⟩ Iff.rfl
  · rintro ⟨c, ⟨hc, hne⟩, rfl, rfl⟩
    rw [if_pos ⟨c, hc, rfl⟩, ← hv c hc]
    exact ⟨rfl, hne.symm⟩
  · rintro ⟨rfl, hne⟩
    by_cases ha : ∃ c ∈ cells, c.1 = a
    · rw [if_pos ha] at hne
      obtain ⟨c, hc, rfl⟩ := ha
      exact ⟨c, ⟨hc, by rw [hv c hc]; exact hne.symm⟩, rfl, rfl⟩
    · rw [if_neg ha] at hne
      exact absurd rfl hne

end determined

/-! ### Stores -/

section stores

variable {s : State} (cells : List (Word × Byte))

/-- What a failed store leaves in the byte at a physical address (U31). -/
def spoiledByte (s : State) (pa : Nat) : Byte := (Config.freeWord s.tick (.storeBusError pa)).extractLsb' 0 8

/-- What a failed store writes to memory. -/
def spoiledCells (s : State) (cells : List (Word × Byte)) : List Host.Cell :=
  s.memoryCells (cells.map fun c => (c.1, spoiledByte s (translate c.1).toNat))

theorem spoilCells_eq : s.spoilCells cells =
    { s with mem := memWriteAll s.mem (spoiledCells s cells), storeWindow := windowAfter s (spoiledCells s cells) } := rfl

/-- Each of these bytes is the free value of its physical address, which one of the addresses of the store names. -/
theorem mem_spoiledCells {c : Host.Cell} (hc : c ∈ spoiledCells s cells) :
    c.2 = spoiledByte s c.1 ∧ ∃ va ∈ cells.map (·.1), c.1 = (translate va).toNat := by
  obtain ⟨d, hd, rfl⟩ := List.mem_map.mp (mem_memoryCells.mp hc).1
  obtain ⟨e, he, rfl⟩ := List.mem_map.mp hd
  exact ⟨rfl, e.1, List.mem_map_of_mem he, rfl⟩

theorem remembered_spoiledCells (h : Memory.wf s.mem = true) :
    Remembered s (memWriteAll s.mem (spoiledCells s cells)) (windowAfter s (spoiledCells s cells)) :=
  remembered_determined (value := spoiledByte s) h (fun _ hc => physicalCells_lt (mem_memoryCells.mp hc).1)
    fun _ hc => (mem_spoiledCells cells hc).1

theorem memRead_spoiledCells_of_ne {a : Nat} (ha : ∀ va ∈ cells.map (·.1), a ≠ (translate va).toNat) :
    memRead (memWriteAll s.mem (spoiledCells s cells)) a = memRead s.mem a := by
  refine memRead_memWriteAll_ne fun c hc heq => ?_
  obtain ⟨-, va, hva, hc⟩ := mem_spoiledCells cells hc
  exact ha va hva (heq.trans hc)

end stores

/-! ### The shared operations at a bus error -/

section busError

variable {s : State}

/-- The error is pending, or in debug mode noted in Debug.BsF (R466(b), R495(a)). -/
theorem dataBusError_eq (d : DataBusError) (s : State) : s.dataBusError d =
    if s.debugMode then { s with debug := s.debug ||| 1#32 <<< 10 } else { s with dbe := some d } := by
  unfold State.dataBusError
  cases s.debugMode <;> rfl

/-- The same behind bytes that are stored. -/
theorem dataBusError_stored (d : DataBusError) (s : State) (m : List Host.Cell) (w : List (Nat × Nat)) :
    State.dataBusError d { s with mem := m, storeWindow := w } =
      if s.debugMode then { s with mem := m, storeWindow := w, debug := s.debug ||| 1#32 <<< 10 }
      else { s with mem := m, storeWindow := w, dbe := some d } :=
  dataBusError_eq d { s with mem := m, storeWindow := w }

/-- The same behind a register that is written. -/
theorem dataBusError_put (d : DataBusError) (s : State) (rd : Reg) (v : Word) :
    (put s rd v).dataBusError d =
      if s.debugMode then { put s rd v with debug := s.debug ||| 1#32 <<< 10 } else { put s rd v with dbe := some d } := by
  have hdebug : (put s rd v).debug = s.debug := by rw [← setReg_eq_put, State.setReg_debug]
  have hmode : (put s rd v).debugMode = s.debugMode := by rw [State.debugMode, hdebug, State.debugMode]
  rw [dataBusError_eq, hmode]
  split
  · rw [hdebug]
  · rfl

theorem load_of_busError {ea : Word} {align : Nat} {vas : List Word} (hadmitted : Admitted s ea align vas)
    (hbus : s.busFails .load vas = true) (len : Word) (dest : Reg) (value : Word) :
    load len dest ea align vas value s =
      .next (doneAccess len ((s.setReg dest (Config.freeWord s.tick .loadBusError)).dataBusError (.load dest))) := by
  obtain ⟨hmode, hperm, hres⟩ := hadmitted
  simp only [load, hmode, access_busError hperm hres hbus, finishAs_access_eq_doneAccess]
  rfl

theorem store_of_busError {ea : Word} {align : Nat} {cells : List (Word × Byte)} (hadmitted : Admitted s ea align (cells.map (·.1)))
    (hbus : s.busFails .store (cells.map (·.1)) = true) (len : Word) :
    store len ea align cells s =
      .next (doneAccess len (if s.product.writeBuffer then s.spoilCells cells else (s.spoilCells cells).dataBusError .store)) := by
  obtain ⟨hmode, hperm, hres⟩ := hadmitted
  simp only [store, hmode, access_busError hperm hres hbus, finishAs_access_eq_doneAccess]
  cases s.product.writeBuffer <;> rfl

end busError

/-! ### The statement -/

/-- Settles O19: the shared load and store at a bus error; the free byte of a failed store depends on its physical address alone. -/
theorem dataBusErrors : Obligations.DataBusErrors := by
  intro i s f hform hslot ⟨hadmitted, hbus⟩
  cases runsAccess_of_accessForm hslot hform with
  | load dest ea align bytes len v hexec =>
    refine ⟨?_, nofun⟩
    rintro _ ⟨⟩
    refine ⟨Config.freeWord s.tick .loadBusError, ?_⟩
    rw [hexec, load_of_busError hadmitted hbus, setReg_eq_put, dataBusError_put]
  | store ea align cells len hexec =>
    refine ⟨nofun, fun _ hwf => ⟨_, _, ?_, remembered_spoiledCells cells hwf, fun a => memRead_spoiledCells_of_ne cells⟩⟩
    rw [hexec, store_of_busError hadmitted hbus, spoilCells_eq, dataBusError_stored]

end Sys2Proof.Machine

/-! What an instruction boundary does (60_exceptions.md R450, R463, R464, R466, R475, R477, R481, R487, R490 to R492, R503, R504, R506): which
interrupt is accepted (O51), and the statements about a waiting core (O58), single step (O55), a pending data bus error (O56), an NMI
(O53), an accepted interrupt (O52) and the next instruction (O7). -/

namespace Sys2Proof.Machine

open Sys2Proof.Spec

/-! ### Which interrupt is accepted -/

section acceptance

variable {s : State}

theorem interruptsEnabled_iff : s.interruptsEnabled = true ↔ Enabled s := by
  rw [State.interruptsEnabled, State.debugMode, bit_eq_getLsbD, bit_eq_getLsbD, Bool.and_eq_true, Bool.not_eq_true']

theorem hwAcceptable_iff : s.hwAcceptable = true ↔ HwAcceptable s := by
  rw [State.hwAcceptable, Bool.and_eq_true, decide_eq_true_iff, interruptsEnabled_iff]
  exact Iff.rfl

theorem swAcceptable_iff {i : BitVec 2} : s.swAcceptable i = true ↔ SwAcceptable s i := by
  rw [State.swAcceptable, Bool.and_eq_true, Bool.and_eq_true, Bool.and_eq_true, decide_eq_true_iff, interruptsEnabled_iff,
    bit_eq_getLsbD, bit_eq_getLsbD, toNat_swiLevel, and_assoc, and_assoc]
  exact Iff.rfl

theorem levelOf_mono : ∀ i j : BitVec 2, i.toNat ≤ j.toNat → levelOf i ≤ levelOf j := by decide

theorem levelOf_of_ne : ∀ i : BitVec 2, i ≠ 3#2 → levelOf i = 1 := by decide

/-- The interrupt that the statement says is accepted, case by case. -/
def Accepts (s : State) : Option Exn → Prop
  | none => ¬ HwAcceptable s ∧ ∀ i, ¬ SwAcceptable s i
  | some .intHw => HwAcceptable s ∧ ∀ i, SwAcceptable s i → levelOf i ≤ s.irqLevel.toNat
  | some (.intSw i) => SwAcceptable s i ∧ (HwAcceptable s → s.irqLevel.toNat < levelOf i) ∧
      ∀ j, SwAcceptable s j → levelOf j < levelOf i ∨ (levelOf j = levelOf i ∧ j.toNat ≤ i.toNat)
  | some _ => False

/-- No software interrupt from the index `n` up is acceptable. -/
def NoneFrom (s : State) (n : Nat) : Prop := ∀ k : BitVec 2, n ≤ k.toNat → ¬ SwAcceptable s k

theorem noneFrom_four (s : State) : NoneFrom s 4 := fun k hk => absurd k.isLt (Nat.not_lt.mpr hk)

theorem noneFrom_of_succ {i : BitVec 2} (habove : NoneFrom s (i.toNat + 1)) (hi : ¬ SwAcceptable s i) : NoneFrom s i.toNat := by
  intro k hk hsw
  obtain hlt | heq := Nat.lt_or_eq_of_le hk
  · exact habove k hlt hsw
  · exact hi (BitVec.eq_of_toNat_eq heq ▸ hsw)

/-- The acceptable software interrupt of the highest index has also the greatest level. -/
theorem accepts_intSw {i : BitVec 2} (hi : SwAcceptable s i) (hhw : HwAcceptable s → s.irqLevel.toNat < levelOf i)
    (habove : NoneFrom s (i.toNat + 1)) : Accepts s (some (.intSw i)) := by
  refine ⟨hi, hhw, fun j hj => ?_⟩
  have hle : j.toNat ≤ i.toNat := Nat.not_lt.mp fun hlt => habove j hlt hj
  obtain hlt | heq := Nat.lt_or_eq_of_le (levelOf_mono j i hle)
  · exact .inl hlt
  · exact .inr ⟨heq, hle⟩

theorem accepts_acceptedInterrupt (s : State) : Accepts s s.acceptedInterrupt := by
  have above3 : NoneFrom s ((3#2).toNat + 1) := noneFrom_four s
  simp only [State.acceptedInterrupt, Bool.and_eq_true, decide_eq_true_iff, hwAcceptable_iff, swAcceptable_iff]
  by_cases hhigh : HwAcceptable s ∧ 4 ≤ s.irqLevel.toNat
  · rw [if_pos hhigh]
    exact ⟨hhigh.1, fun i _ => (levelOf_mono i 3#2 (Nat.le_of_lt_succ i.isLt)).trans hhigh.2⟩
  rw [if_neg hhigh]
  by_cases h3 : SwAcceptable s 3#2
  · rw [if_pos h3]
    exact accepts_intSw h3 (fun hhw => Nat.not_le.mp fun hle => hhigh ⟨hhw, hle⟩) above3
  rw [if_neg h3]
  have above2 := noneFrom_of_succ above3 h3
  by_cases hhw : HwAcceptable s
  · rw [if_pos hhw]
    refine ⟨hhw, fun i hi => ?_⟩
    rw [levelOf_of_ne i fun heq => h3 (heq ▸ hi)]
    exact Nat.one_le_of_lt hhw.2
  rw [if_neg hhw]
  by_cases h2 : SwAcceptable s 2#2
  · rw [if_pos h2]
    exact accepts_intSw h2 (absurd · hhw) above2
  rw [if_neg h2]
  have above1 := noneFrom_of_succ above2 h2
  by_cases h1 : SwAcceptable s 1#2
  · rw [if_pos h1]
    exact accepts_intSw h1 (absurd · hhw) above1
  rw [if_neg h1]
  have above0 := noneFrom_of_succ above1 h1
  by_cases h0 : SwAcceptable s 0#2
  · rw [if_pos h0]
    exact accepts_intSw h0 (absurd · hhw) above0
  rw [if_neg h0]
  exact ⟨hhw, fun j => noneFrom_of_succ above0 h0 j (Nat.zero_le _)⟩

/-- The cases of the statement exclude each other. -/
theorem accepts_unique {a b : Option Exn} (ha : Accepts s a) (hb : Accepts s b) : a = b := by
  match a, b, ha, hb with
  | none, none, _, _ => rfl
  | none, some .intHw, ⟨hhw, _⟩, ⟨hhw', _⟩ => exact absurd hhw' hhw
  | none, some (.intSw i), ⟨_, hsw⟩, ⟨hi, _⟩ => exact absurd hi (hsw i)
  | some .intHw, none, ⟨hhw, _⟩, ⟨hhw', _⟩ => exact absurd hhw hhw'
  | some .intHw, some .intHw, _, _ => rfl
  | some .intHw, some (.intSw i), ⟨hhw, hle⟩, ⟨hi, hlt, _⟩ => exact absurd (hle i hi) (Nat.not_le.mpr (hlt hhw))
  | some (.intSw i), none, ⟨hi, _⟩, ⟨_, hsw⟩ => exact absurd hi (hsw i)
  | some (.intSw i), some .intHw, ⟨hi, hlt, _⟩, ⟨hhw, hle⟩ => exact absurd (hle i hi) (Nat.not_le.mpr (hlt hhw))
  | some (.intSw i), some (.intSw j), ⟨hi, _, himax⟩, ⟨hj, _, hjmax⟩ =>
    have hij := himax j hj
    have hji := hjmax i hi
    have heq : i = j := BitVec.eq_of_toNat_eq (by omega)
    rw [heq]

theorem acceptedInterrupt_eq_iff {a : Option Exn} : s.acceptedInterrupt = a ↔ Accepts s a := by
  refine ⟨?_, accepts_unique (accepts_acceptedInterrupt s)⟩
  rintro rfl
  exact accepts_acceptedInterrupt s

end acceptance

/-- Settles O51: the order of the tests finds one of the cases, and the cases exclude each other. -/
theorem interruptAcceptance : Obligations.InterruptAcceptance :=
  fun _ => ⟨acceptedInterrupt_eq_iff, acceptedInterrupt_eq_iff, fun _ => acceptedInterrupt_eq_iff⟩

/-! ### Halt and Doze -/

section boundary

variable {s : State}

theorem filter_nullify_eq_none (h : ∀ k, s.slot = some k → k.nullify = false) : s.slot.filter (·.nullify) = none := by
  rw [Option.filter_eq_none_iff]
  intro k hk
  simp [h k hk]

theorem boundary_of_stopped (hslot : ∀ k, s.slot = some k → k.nullify = false) (hstopped : s.stopped = true) :
    boundary s = if s.released then runBoundary { s with config := wake s.config } else .next s := by
  simp only [boundary, filter_nullify_eq_none hslot, hstopped]
  rfl

theorem boundary_of_not_stopped (hslot : ∀ k, s.slot = some k → k.nullify = false) (hstopped : s.stopped = false) :
    boundary s = runBoundary s := by
  simp only [boundary, filter_nullify_eq_none hslot, hstopped]
  rfl

theorem nmiDue_iff : s.nmiDue = true ↔ s.nmiPending = true ∧ s.debugMode = false := by simp [State.nmiDue]

theorem released_iff : s.released = true ↔ s.irqLevel.toNat ≠ 0 ∨ (s.nmiPending = true ∧ s.debugMode = false) := by
  rw [State.released, Bool.or_eq_true, nmiDue_iff, bne_iff_ne, BitVec.toNat_ne, or_comm]
  exact Iff.rfl

end boundary

/-- Settles O58: the boundary of a stopped core asks only whether something releases it. -/
theorem haltAndDoze : Obligations.HaltAndDoze := by
  intro s hreset hslot hstopped
  rw [step_of_not_resetDue hreset, boundary_of_stopped hslot hstopped]
  refine ⟨fun hirq hnmi => if_neg ?_, fun hrelease => if_pos (released_iff.mpr hrelease)⟩
  rw [released_iff]
  rintro (hlevel | ⟨hpending, hdebug⟩)
  · exact hlevel hirq
  · obtain hnone | hmode := hnmi
    · exact Bool.false_ne_true (hnone.symm.trans hpending)
    · exact Bool.false_ne_true (hdebug.symm.trans hmode)

/-! ### Single step -/

section singleStep

variable {s : State}

theorem singleStepDue_of (hslot : s.slot = none) (hstep : BitVec.getLsbD s.debug 8 = true)
    (hdebug : BitVec.getLsbD s.debug 30 = false) (hskip : s.ssSkip = false) : s.singleStepDue = true := by
  have hset : bit s.debug 8 = true := (bit_eq_getLsbD _ _).trans hstep
  have hmode : s.debugMode = false := (bit_eq_getLsbD _ _).trans hdebug
  rw [State.singleStepDue, hset, hmode, hslot, hskip]
  rfl

theorem runBoundary_of_singleStepDue (h : s.singleStepDue = true) : runBoundary s = takeSingleStep s := if_pos h

theorem runBoundary_of_not_singleStepDue (h : s.singleStepDue = false) : runBoundary s = dispatchNext s :=
  if_neg (Bool.eq_false_iff.mp h)

theorem takeSingleStep_of_addressError {va : Word} (h : s.fetch = .addressError va) :
    takeSingleStep s = .next (s.takeCoincident .singleStep (.adel va)) := by
  rw [takeSingleStep, h]

theorem takeSingleStep_alone (h : ∀ va, s.fetch ≠ .addressError va) :
    takeSingleStep s = .next (s.takeDebug .singleStep false false) := by
  unfold takeSingleStep
  split
  · next va hva => exact absurd hva (h va)
  · rfl

end singleStep

/-- Settles O55: the boundary takes a due single step before it asks for anything else but RESET, Halt and Doze. -/
theorem singleStep : Obligations.SingleStep := by
  intro s u hreset hslot hstopped hstep hdebug hskip
  have hdue : u.singleStepDue = true := singleStepDue_of hslot hstep hdebug hskip
  have hrun : step s = takeSingleStep u := by
    rw [step_of_not_resetDue hreset, boundary_of_not_stopped (by simp [u, hslot]) hstopped, runBoundary_of_singleStepDue hdue]
  refine ⟨fun hfetch => ?_, fun va hfetch => hrun.trans (takeSingleStep_of_addressError hfetch)⟩
  have hpc : savedPc u = u.pc := by rw [savedPc, hslot]
  refine ⟨debugAfter .singleStep false false false u.debug, ?_, fun n hn => ?_⟩
  · have hdbd : (u.takeDebug .singleStep false false).debug = debugAfter .singleStep false false false u.debug := by
      rw [State.takeDebug_debug, restart_eq, hslot]
      rfl
    rw [hrun, takeSingleStep_alone hfetch, takeDebug_eq, hdbd, hpc, ← hslot, ← hskip]
  · rw [getLsbD_debugAfter _ _ _ _ _ hn]
    grind

end Sys2Proof.Machine

/-! The order of a boundary behind single step (60_exceptions.md R450, R463, R464, R466, R481, R492): what the next instruction can be found
to do, and the statements about a pending data bus error (O56), an NMI (O53) and an accepted interrupt (O52). -/

namespace Sys2Proof.Machine

open Sys2Proof.Spec

/-! ### A pending data bus error -/

/-- The registers that the rule of a pending load asks for, by the two instruction sets. -/
theorem sourcesOf_eq (i : Instr) : sourcesOf i = reads32 i ++ reads16 i := by
  cases i <;> rfl

theorem waitsForLoad_instr {dest : Reg} {c : Code} {failed : Bool} {i : Instr} (h : decodeCode c = .instr i) :
    waitsForLoad (.load dest) (.code c failed) = true ↔ WaitsFor dest i := by
  have heq : waitsForLoad (.load dest) (.code c failed) = (i == .sync || (dest != 0#5 && (sourcesOf i).contains dest)) := by
    simp only [waitsForLoad, h]
  rw [heq, WaitsFor, Bool.or_eq_true, beq_iff_eq, Bool.and_eq_true, bne_iff_ne, List.contains_iff_mem, sourcesOf_eq, List.mem_append]

/-- Only a load's error is waited for, and only by an instruction that was fetched (R466(b)). -/
theorem exists_instr_of_waitsForLoad {d : DataBusError} {f : Fetched} (h : waitsForLoad d f = true) :
    ∃ dest c failed i, d = .load dest ∧ f = .code c failed ∧ decodeCode c = .instr i := by
  unfold waitsForLoad at h
  split at h
  · next dest c failed =>
    split at h
    · next i hi => exact ⟨dest, c, failed, i, rfl, rfl, hi⟩
    · cases h
  · cases h

theorem waitsForLoad_iff (d : DataBusError) (f : Fetched) : waitsForLoad d f = true ↔
    ∃ dest c failed i, d = .load dest ∧ f = .code c failed ∧ decodeCode c = .instr i ∧ WaitsFor dest i := by
  constructor
  · intro h
    obtain ⟨dest, c, failed, i, rfl, rfl, hi⟩ := exists_instr_of_waitsForLoad h
    exact ⟨dest, c, failed, i, rfl, rfl, hi, (waitsForLoad_instr hi).mp h⟩
  · rintro ⟨dest, c, failed, i, rfl, rfl, hi, hwaits⟩
    exact (waitsForLoad_instr hi).mpr hwaits

section dataBusError

variable {s : State} {d : DataBusError}

theorem dispatchNext_dataBusError (hfetch : s.fetch ≠ .busError) (hdbe : s.dbeDue = some d) :
    dispatchNext s = .next (takeDataBusError d s) := by
  simp only [dispatchNext, if_neg hfetch, hdbe]

theorem takeDataBusError_of_waits (h : waitsForLoad d s.fetch = true) :
    takeDataBusError d s = State.take .dbe { s with dbe := none } := if_pos h

theorem takeDataBusError_of_not_waits (h : waitsForLoad d s.fetch = false) :
    takeDataBusError d s = State.takeWith .dbe (Config.freeWord s.tick .busErrorEpc)
      (bit (Config.freeWord s.tick .busErrorBd) 0) { s with dbe := none } := if_neg (Bool.eq_false_iff.mp h)

end dataBusError

/-- Settles O56: behind single step only a bus error of the fetch comes before a pending data bus error. -/
theorem dataBusErrorIsTaken : Obligations.DataBusErrorIsTaken := by
  intro s d u hreset hslot hstopped hdbe hdebug hsingle
  have hrun : step s = dispatchNext u := by
    rw [step_of_not_resetDue hreset, boundary_of_not_stopped hslot hstopped, runBoundary_of_not_singleStepDue hsingle]
  have hdue : u.dbeDue = some d := by rw [State.dbeDue, hdebug]; exact hdbe
  refine ⟨fun hfetch => ⟨?_, hdbe⟩, waitsForLoad_iff d u.fetch, fun hfetch hwaits => ?_, fun hfetch hwaits => ?_⟩
  · rw [hrun, dispatchNext_busError hfetch, raise_eq hdebug]
  · rw [hrun, dispatchNext_dataBusError hfetch hdue, takeDataBusError_of_waits hwaits]
  · have htaken := hrun.trans (dispatchNext_dataBusError hfetch hdue)
    rw [takeDataBusError_of_not_waits hwaits] at htaken
    exact ⟨_, _, htaken⟩

/-! ### What the next instruction would do -/

section outcomes

variable {r : Result}

theorem meetsBusError_iff : meetsBusError r = true ↔ ∃ t, r = .next t ∧ t.dbe ≠ none := by
  cases r with
  | next t => simp [meetsBusError, Option.isSome_iff_ne_none]
  | fault | refused => simp [meetsBusError]

theorem takesException_iff : takesException r = true ↔ ∃ t, r = .next t ∧ t.prev = .entry := by
  cases r with
  | next t => simp [takesException]
  | fault | refused => simp [takesException]

theorem meetsBusError_eq_false (h : ∀ t, r = .next t → t.dbe = none) : meetsBusError r = false := by
  rw [Bool.eq_false_iff, Ne, meetsBusError_iff]
  rintro ⟨t, ht, hdbe⟩
  exact hdbe (h t ht)

theorem takesException_eq_false (h : ∀ t, r = .next t → t.prev ≠ .entry) : takesException r = false := by
  rw [Bool.eq_false_iff, Ne, takesException_iff]
  rintro ⟨t, ht, hentry⟩
  exact h t ht hentry

end outcomes

section sdbbp

variable {s t : State}

theorem execDecoded_of_isSdbbp {c : Code} {failed : Bool} (h : (Fetched.code c failed).isSdbbp = true) (s : State) :
    execDecoded (decodeCode c) s = debugBreakpoint s := by
  simp only [Fetched.isSdbbp] at h
  split at h
  · next hi => rw [hi]; rfl
  · next hi => rw [hi]; rfl
  · cases h

theorem debugBreakpoint_next (h : debugBreakpoint s = .next t) : t = s.takeDebug .breakpoint false false := by
  unfold debugBreakpoint at h
  split at h <;> cases h
  rfl

/-- SDBBP makes no access to data, so it meets no bus error. -/
theorem dbe_of_isSdbbp {f : Fetched} (hsdbbp : f.isSdbbp = true) (h : runFetched f s = .next t) : t.dbe = s.dbe := by
  cases f with
  | code c failed =>
    have hbreak := (execDecoded_of_isSdbbp hsdbbp _).symm.trans h
    rw [debugBreakpoint_next hbreak]
    rfl
  | addressError | reserved | busError | stale => cases hsdbbp

end sdbbp

/-! ### NMI and interrupts against the next instruction -/

section dispatch

variable {s t : State} {e : Exn}

theorem takeInterrupt_of_sdbbp {f : Fetched} (h : f.isSdbbp = true) :
    takeInterrupt e f s = .next (s.takeCoincident .breakpoint e) := if_pos h

theorem takeInterrupt_of_quiet {f : Fetched} (hsdbbp : f.isSdbbp = false)
    (hquiet : ∀ t, runFetched f s = .next t → t.prev ≠ .entry ∧ t.dbe = none) : takeInterrupt e f s = .next (s.take e) := by
  have hentry := takesException_eq_false fun t ht => (hquiet t ht).1
  have hbus := meetsBusError_eq_false fun t ht => (hquiet t ht).2
  simp only [takeInterrupt, hsdbbp, hentry, hbus]
  rfl

theorem takeInterrupt_of_outranked {f : Fetched} (hsdbbp : f.isSdbbp = false) (hrun : runFetched f s = .next t)
    (hrank : t.prev = .entry ∨ t.dbe ≠ none) : takeInterrupt e f s = .next t := by
  have hboth : (takesException (.next t) || meetsBusError (.next t)) = true := by
    rw [Bool.or_eq_true, takesException_iff, meetsBusError_iff]
    exact hrank.imp (⟨t, rfl, ·⟩) (⟨t, rfl, ·⟩)
  simp only [takeInterrupt, hsdbbp, hrun, hboth]
  rfl

theorem dispatchNext_nmi (hfetch : s.fetch ≠ .busError) (hdbe : s.dbeDue = none) (hnmi : s.nmiDue = true)
    (hbus : meetsBusError (runFetched s.fetch s) = false) :
    dispatchNext s = if s.fetch.isSdbbp then .next (s.takeCoincident .breakpoint .nmi) else .next (s.take .nmi) := by
  simp only [dispatchNext, if_neg hfetch, hdbe, hnmi, hbus]
  rfl

/-- A load or store that meets a bus error runs before an NMI and before an interrupt. -/
theorem dispatchNext_meetsBusError (hfetch : s.fetch ≠ .busError) (hdbe : s.dbeDue = none)
    (hsdbbp : s.fetch.isSdbbp = false) (hrun : runFetched s.fetch s = .next t) (hbus : t.dbe ≠ none) : dispatchNext s = .next t := by
  have hmeets : meetsBusError (.next t) = true := meetsBusError_iff.mpr ⟨t, rfl, hbus⟩
  simp only [dispatchNext, if_neg hfetch, hdbe, hrun, hmeets, Bool.not_true, Bool.and_false]
  cases s.acceptedInterrupt with
  | none => rfl
  | some e => exact takeInterrupt_of_outranked hsdbbp hrun (.inr hbus)

theorem dispatchNext_interrupt (hfetch : s.fetch ≠ .busError) (hdbe : s.dbeDue = none) (hnmi : s.nmiDue = false)
    (hint : s.acceptedInterrupt = some e) : dispatchNext s = takeInterrupt e s.fetch s := by
  simp only [dispatchNext, if_neg hfetch, hdbe, hnmi, hint]
  rfl

theorem dispatchNext_instruction (hdbe : s.dbeDue = none) (hnmi : s.nmiDue = false) (hint : s.acceptedInterrupt = none) :
    dispatchNext s = runFetched s.fetch s := by
  simp only [dispatchNext, hdbe, hnmi, hint]
  exact ite_self _

end dispatch

/-! ### The statements -/

/-- Settles O53: without a bus error of data the NMI is taken; the instruction that meets one is no SDBBP, so it also runs before an
interrupt. -/
theorem nmiIsTaken : Obligations.NmiIsTaken := by
  intro s u hreset hrunning hpending hdebug hfetch
  have hrun : step s = dispatchNext u := step_of_running hreset hrunning
  have ⟨_, _, hdbe, _⟩ := hrunning
  have hnmi : u.nmiDue = true := nmiDue_iff.mpr ⟨hpending, hdebug⟩
  refine ⟨fun hquiet => ?_, fun t ht hbus => ?_, Bool.and_false _, Bool.and_false _⟩
  · have hdispatch := hrun.trans (dispatchNext_nmi hfetch hdbe hnmi (meetsBusError_eq_false hquiet))
    exact ⟨fun hsdbbp => by rw [hdispatch, hsdbbp]; rfl, fun hsdbbp => by rw [hdispatch, hsdbbp]; rfl⟩
  · have hnone : u.dbe = none := by
      rw [State.dbeDue, hdebug] at hdbe
      exact hdbe
    have hsdbbp : u.fetch.isSdbbp = false := by
      by_contra h
      exact hbus ((dbe_of_isSdbbp (Bool.eq_true_of_not_eq_false h) ht).trans hnone)
    rw [hrun, dispatchNext_meetsBusError hfetch hdbe hsdbbp ht hbus]

/-- Settles O52: the interrupt meets SDBBP, is outranked by the next instruction's own exception or bus error, or is taken. -/
theorem interruptIsTaken : Obligations.InterruptIsTaken := by
  intro s e u hreset hrunning hnmi hint hfetch
  have ⟨_, _, hdbe, _⟩ := hrunning
  have hrun : step s = takeInterrupt e u.fetch u :=
    (step_of_running hreset hrunning).trans (dispatchNext_interrupt hfetch hdbe hnmi hint)
  exact ⟨fun hsdbbp => hrun.trans (takeInterrupt_of_sdbbp hsdbbp), fun hsdbbp =>
    ⟨fun hquiet => hrun.trans (takeInterrupt_of_quiet hsdbbp hquiet),
      fun t ht hrank => hrun.trans (takeInterrupt_of_outranked hsdbbp ht hrank)⟩⟩

end Sys2Proof.Machine

/-! The step of an ordinary boundary (30_encoding.md R127, R131, R132, R149, 20_memory.md R93, R103, 60_exceptions.md R468, R469, R495): the
next instruction in the state it begins in, and the statement about it (O7). -/

namespace Sys2Proof.Machine

open Sys2Proof.Spec

/-! ### The state an instruction begins in -/

/-- The counts of the hazard rules go down and nothing else changes (20_memory.md R103, 70_reset_and_hazards.md R536(d)). -/
theorem age_eq (s : State) : s.age = { s with depcWait := s.depcWait - 1, storeWindow := s.age.storeWindow } := rfl

section start

variable (s : State) (failed : Bool)

theorem noteFetch_age_eq :
    (s.noteFetch failed).age = State.age { s with debug := if failed then s.debug ||| 1#32 <<< 10 else s.debug } := rfl

/-- Debug.BsF is not Debug.DM. -/
theorem debugMode_noteFetch : (s.noteFetch failed).age.debugMode = s.debugMode := by
  have hdm : (0x00000400 : Word).getLsbD 30 = false := by decide
  rw [State.debugMode, State.debugMode, State.age_debug, State.noteFetch_debug, bit_eq_getLsbD, bit_eq_getLsbD]
  cases failed with
  | true => rw [if_pos rfl, BitVec.getLsbD_or, hdm, Bool.or_false]
  | false => rfl

theorem usable_noteFetch (z : BitVec 2) : Usable (s.noteFetch failed).age z ↔ Usable s z := by
  have huser : (s.noteFetch failed).age.userMode = s.userMode := by
    rw [State.userMode, debugMode_noteFetch]
    rfl
  rw [Usable, huser]
  exact Iff.rfl

end start

/-! ### Codes that are no instruction -/

section decoded

variable {v : State} {z : BitVec 2} {e : Exn} {code : BitVec 5} {ce : Option (BitVec 2)}

/-- Outside debug mode the exception of a decoding is taken. -/
theorem exists_entered_of_raise {r : Result} (h : r = raise e v) (hdebug : v.debugMode = false) (hcode : e.code = some code)
    (hint : code ≠ 0) (hce : ∀ z, ce = some z → e = .cpu z) :
    ∃ t, r = .next t ∧ Entered v t code ce (e.badVAddrAfter v.badVAddr) :=
  ⟨v.take e, h.trans (raise_eq hdebug), entered_take v hcode hint hce⟩

/-- A decoding that belongs to a coprocessor comes to its usability check first (44_coproc_special32.md R290). -/
theorem execDecoded_of_not_usable {d : Decoded} (h : d = .reservedCop z ∨ d = .nonZeroFieldCop z ∨ (d = .unlistedCop0 ∧ z = 0#2))
    (hunusable : ¬ Usable v z) : execDecoded d v = raise (.cpu z) v := by
  obtain rfl | rfl | ⟨rfl, rfl⟩ := h
  · exact ifUsable_of_not_usable hunusable _
  · exact ifUsable_of_not_usable hunusable _
  · exact ifUsable_of_not_usable hunusable _

/-- In debug mode a reserved code of a coprocessor stops whether or not the unit is usable (60_exceptions.md R495(f)). -/
theorem execDecoded_reservedCop_of_debugMode (hdebug : v.debugMode = true) :
    execDecoded (.reservedCop z) v = .fault .exceptionInDebugMode := by
  by_cases husable : Usable v z
  · exact (ifUsable_of_usable husable _).trans (raise_of_debugMode hdebug)
  · exact (ifUsable_of_not_usable husable _).trans (raise_of_debugMode hdebug)

end decoded

/-! ### The statement -/

/-- Settles O7: the boundary runs what the fetch gives, and each decoding does what its rule says in the state the instruction begins
in, where the mode and the usable coprocessors are those of the boundary. -/
theorem stepRunsDecodedInstruction : Obligations.StepRunsDecodedInstruction := by
  intro s u start
  refine ⟨fun v => ⟨age_eq v, fun a n => mem_age_storeWindow⟩, fun hreset hrunning hnmi hint => ?_⟩
  have ⟨_, _, hdbe, _⟩ := hrunning
  have hrun : step s = runFetched u.fetch u :=
    (step_of_running hreset hrunning).trans (dispatchNext_instruction hdbe hnmi hint)
  refine ⟨fun c failed hfetch => ?code, fun hfetch => by rw [hrun, hfetch]; rfl, fun hfetch => by rw [hrun, hfetch]; rfl⟩
  case code =>
    have hmode : (start failed).debugMode = u.debugMode := debugMode_noteFetch u failed
    have husable (z : BitVec 2) : Usable (start failed) z ↔ Usable u z := usable_noteFetch u failed z
    have hdecoded {d : Decoded} (hd : decodeCode c = d) : step s = execDecoded d (start failed) := by
      rw [hrun, hfetch, ← hd]
      rfl
    have hreserved {z : BitVec 2} (hd : decodeCode c = .reservedCop z) (hu : Usable u z) : step s = raise .ri (start failed) :=
      (hdecoded hd).trans (ifUsable_of_usable ((husable z).mpr hu) _)
    refine ⟨fun i hd => hdecoded hd, fun hd hdebug => ?_, fun hd hdebug => ?_, fun z hd hu hdebug => ?_, fun z hd hdebug => ?_,
      fun hd => hdecoded hd, fun z hd hu => ?_, fun hd hu => ?_, fun z hd hunusable => ⟨fun hdebug => ?_, fun hdebug => ?_⟩⟩
    · exact exists_entered_of_raise (e := .ri) (hdecoded hd) (hmode.trans hdebug) rfl (by decide) nofun
    · exact (hdecoded hd).trans (raise_of_debugMode (hmode.trans hdebug))
    · exact exists_entered_of_raise (e := .ri) (hreserved hd hu) (hmode.trans hdebug) rfl (by decide) nofun
    · exact (hdecoded hd).trans (execDecoded_reservedCop_of_debugMode (hmode.trans hdebug))
    · exact (hdecoded hd).trans (ifUsable_of_usable ((husable z).mpr hu) _)
    · exact (hdecoded hd).trans (ifUsable_of_usable ((husable 0#2).mpr hu) _)
    · have hcpu := (hdecoded rfl).trans (execDecoded_of_not_usable hd (mt (husable z).mp hunusable))
      refine exists_entered_of_raise (e := .cpu z) hcpu (hmode.trans hdebug) rfl (by decide) ?_
      rintro _ ⟨⟩
      rfl
    · have hcpu := (hdecoded rfl).trans (execDecoded_of_not_usable hd (mt (husable z).mp hunusable))
      exact hcpu.trans (raise_of_debugMode (hmode.trans hdebug))

end Sys2Proof.Machine

/-! RFE (44_coproc_special32.md R306, 60_exceptions.md R455) outside its hazard: the pop of Status bit by bit, and the statement about it
(O41). -/

namespace Sys2Proof.Machine

open Sys2Proof.Spec

theorem statusPopped_popStatus (status : Word) : StatusPopped status (popStatus status) := by
  intro i hi
  simp only [popStatus, BitVec.getLsbD_append, BitVec.getLsbD_extractLsb']
  obtain h | h | h | h : i < 4 ∨ (4 ≤ i ∧ i < 13) ∨ (13 ≤ i ∧ i < 16) ∨ 16 ≤ i := by omega
  all_goals grind

/-- Settles O41: behind the check, and without the hazard, RFE only pops. -/
theorem returnFromException : Obligations.ReturnFromException := by
  intro s husable htouched
  refine ⟨popStatus s.status, ?_, statusPopped_popStatus s.status⟩
  refine (ifUsable_of_usable husable _).trans ?_
  rw [htouched, finish_eq_done]
  rfl

end Sys2Proof.Machine

/-! Words of 95_test_vectors.md and the instructions they stand for: the statement about them (O3). -/

namespace Sys2Proof.Machine

/-- Settles O3: the words are encodings of their instructions, read back field by field by the decoder. -/
theorem sampleWordsDecode : Obligations.SampleWordsDecode :=
  ⟨rfl, rfl, rfl, rfl, rfl, rfl, rfl, rfl, rfl, rfl, rfl, rfl, rfl, rfl, rfl, rfl, rfl, rfl, rfl⟩

end Sys2Proof.Machine
